-- ==== Sys2Proof/Word.lean ====
section
/-! DEFINITION. The word types of the block, with bit 0 the least significant bit of every value (rule R7). -/

namespace Sys2Proof

/-- A RawSample: the unsigned 16-bit word of one transaction (R20, R80). -/
abbrev RawSample := BitVec 16

/-- The field `q` of a RawSample: an unsigned count of quarter degrees (R81, R130). -/
abbrev Quarters := BitVec 13

/-- A published temperature in whole degrees, 9 bits (R28, R87). -/
abbrev Degrees := BitVec 9

/-- The code held by `phase` or `pl_phase` (R21, R22). -/
abbrev SeqCode := BitVec 3

end Sys2Proof
end

