-- ==== Sys2Proof/Config.lean ====
section
/-! DEFINITION. What is fixed for the block: the protocol constants and the parameters of rule R6, and the free
values, which no proof can see. -/

namespace Sys2Proof

/-- `RAW_BITS`: clock pulses per transaction, fixed (R6, R104). -/
abbrev Config.rawBits : Nat := 16

/-- `FAULT_BIT`: the open-circuit bit of a RawSample, fixed (R6, R131). -/
abbrev Config.faultBit : Nat := 2

/-- `DATA_SHIFT`: the low bits the decoder discards, fixed (R6, R131). -/
abbrev Config.dataShift : Nat := 3

/-- `SCALE` is one over this: a count is worth a quarter of a degree, fixed (R6, R130). -/
abbrev Config.countsPerDegree : Nat := 4

/-- `T_MIN`, fixed (R6, R135). -/
abbrev Config.tMin : Int := 0

/-- `T_MAX`, fixed (R6, R135). -/
abbrev Config.tMax : Int := 500

/-- `MS_CLOCK_BITS`, written `W`: the spec's decided default (R6, D8). -/
abbrev Config.msClockBits : Nat := 32

/-- A sample of the millisecond clock, and a timer register (R33, R58). -/
abbrev Ms := BitVec Config.msClockBits

/-- The parameters a deployment chooses, passed at construction time (R6, R186).
Times that R6 leaves open are whole nanoseconds, so that one microsecond is 1000. -/
structure Params where
  /-- `SENSOR_PERIOD_MS`. -/
  sensorPeriodMs : Nat
  /-- `ACT_PERIOD_MS`. -/
  actPeriodMs : Nat
  /-- `T_SETTLE`. -/
  tSettleNs : Nat
  /-- `T_IDLE`. -/
  tIdleNs : Nat
  /-- `T_PULSE`. -/
  tPulseNs : Nat
  /-- `T_CONV`, the sensor's conversion period. No rule reads it (R240). -/
  tConvMs : Nat
  /-- `PIN_CS`. -/
  pinCs : Nat
  /-- `PIN_CLK`. -/
  pinClk : Nat
  /-- `PIN_DATA`. -/
  pinData : Nat
  /-- `PIN_ACT`. -/
  pinAct : Nat
  /-- `PIN_RESET`, a role no operation uses (R51, R186). -/
  pinReset : Nat
  /-- `ACT_ACTIVE_LEVEL`: the electrical level of the asserted actuator line (R181). -/
  actActiveLevel : Bool
  deriving DecidableEq, Repr

/-- The parameters of the reset state: the spec's defaults 1000 and 50 (D16).
DESIGN CHOICE (log 16, unsafe): the OPEN parameters hold example values inside their constraints. -/
def Params.default : Params where
  sensorPeriodMs := 1000
  actPeriodMs := 50
  tSettleNs := 1000
  tIdleNs := 5000000
  tPulseNs := 1000000
  tConvMs := 1000
  pinCs := 0
  pinClk := 1
  pinData := 2
  pinAct := 3
  pinReset := 4
  actActiveLevel := true

/-- The draw number `n` of the line DATA where no script gives the bit (R57; log 3). -/
opaque Config.freeData : Nat → Bool

/-- The draw number `n` of the line REQ_IN where no script gives the bit (R69, U11; log 4). -/
opaque Config.freeReq : Nat → Bool

/-- The milliseconds by which the clock advances before a sample, where no script gives them (R58; log 5). -/
opaque Config.freeAdvance : Nat → Nat

/-- Whether `begin()` writes CLK before CS: both orders are possible (U7; log 6). -/
opaque Config.freeBeginOrder : Nat → Bool

/-- What PL.SAMPLE leaves in `shreg` when `15 - bitcnt` names no bit (R107, R139 (7); log 10). -/
opaque Config.freeShreg : Nat → RawSample

/-- What PL.CLKLO leaves in `bitcnt` when the sum does not fit five bits (R139 (6); log 11). -/
opaque Config.freeBitcnt : Nat → BitVec 5

/-- What TD.ROUND delivers when the reading holds no count (R134, P1f; log 13). -/
opaque Config.freeRound : Nat → Int

end Sys2Proof
end

