-- ==== Sys2Proof/Syntax.lean ====
section
/-! DEFINITION. The operations of the block, one constructor per row of spec/opcode_table.json, and the code words
that name them. -/

namespace Sys2Proof

/-- The sixteen operations of rule R84 and the two decode classes of a RAW16 word (R82). An OPSEL code has no
operand field (R83), so only the two classes carry fields. -/
inductive Instr where
  /-- CL.START, startup (R151). -/
  | clStart
  /-- CL.INPUT, the request is latched (R152). -/
  | clInput
  /-- CL.SENSOR, the sensor-timer phase (R153). -/
  | clSensor
  /-- CL.ACT, the actuator-timer phase (R156). -/
  | clAct
  /-- CL.IDLE, the end-of-iteration delay (R160). -/
  | clIdle
  /-- PL.BEGIN, `begin()` (R101). -/
  | plBegin
  /-- PL.READRAW, `readRaw() -> RawSample` (R102). -/
  | plReadraw
  /-- TD.DECODE, `decode(RawSample) -> Reading` (R131). -/
  | tdDecode
  /-- PL.CSASSERT, "asserts chip-select" (R105). -/
  | plCsassert
  /-- PL.CLKHI, "raises clock, waits a fixed settle delay" (R106). -/
  | plClkhi
  /-- PL.SAMPLE, one bit of the frame (R107). -/
  | plSample
  /-- PL.CLKLO, "lowers clock, waits the same settle delay" (R108). -/
  | plClklo
  /-- PL.CSRELEASE, "Deasserts chip-select" (R109). -/
  | plCsrelease
  /-- TD.ROUND, "rounds to the nearest integer" (R134). -/
  | tdRound
  /-- TD.CLAMP, "clamps to [0, 500]" (R135). -/
  | tdClamp
  /-- AD.PULSE, `pulse()` (R181). -/
  | adPulse
  /-- RAW.FAULT: the data word `q :: 1 :: sr` given to TD.DECODE (R80, R82). -/
  | rawFault (q : Quarters) (sr : BitVec 2)
  /-- RAW.TEMP: the data word `q :: 0 :: sr` given to TD.DECODE (R80, R82). -/
  | rawTemp (q : Quarters) (sr : BitVec 2)
  deriving DecidableEq, Repr

/-- A code word: 4 bits in format OPSEL or 16 bits in format RAW16 (R91), as its length and its value. -/
structure CodeWord where
  /-- How many bits the word has. -/
  nbits : Nat
  /-- Its value, bit 0 least significant. -/
  bits : Nat
  deriving DecidableEq, Repr

/-- Why a code word names no operation. -/
inductive DecodeError where
  /-- The value does not fit the word's length. -/
  | tooWide
  /-- No format has this length (R91). -/
  | noSuchFormat
  deriving DecidableEq, Repr

end Sys2Proof
end

