-- ==== Sys2Proof/WellFormed.lean ====
section
/-! DEFINITION. The checks on data that comes from outside: a code word and a configuration. The fields of an
instruction are bit vectors of the field's own width, so every term of `Instr` is well formed by its type. -/

namespace Sys2Proof

/-- A code word is 4 bits or 16 bits long and its value fits (R91). -/
def CodeWord.wf (c : CodeWord) : Bool :=
  (c.nbits == 4 || c.nbits == 16) && decide (c.bits < 2 ^ c.nbits)

/-- The constraints of rule R236 and U12 on the parameters. `T_CONV` is not among them (U12: that case is U3). -/
def Params.wf (p : Params) : Bool :=
  decide (0 < p.sensorPeriodMs ∧ p.sensorPeriodMs < 2 ^ Config.msClockBits)
    && decide (0 < p.actPeriodMs ∧ p.actPeriodMs < 2 ^ Config.msClockBits)
    && decide (1000 ≤ p.tSettleNs)
    && decide (0 < p.tIdleNs ∧ p.tIdleNs < p.actPeriodMs * 1000000)
    && decide (0 < p.tPulseNs ∧ p.tPulseNs < p.actPeriodMs * 1000000)

end Sys2Proof
end

