-- ==== Sys2Proof/Decode.lean ====
section
/-! DEFINITION. The decoder, total on every code word, and after it the encoder; both written from the tables of
30_encoding.md (R80, R82, R84). -/

namespace Sys2Proof

/-- One row of the opcode table: the words of `nbits` bits whose bits under `mask` are `pattern`. -/
structure OpRow where
  nbits : Nat
  mask : Nat
  pattern : Nat
  build : Nat → Instr

/-- The field `q`, bits 15:3 of a RAW16 word (R80, R88). -/
def fieldQ (w : Nat) : Quarters := BitVec.ofNat 13 (w / 8)

/-- The field `sr`, bits 1:0 of a RAW16 word (R80). -/
def fieldSr (w : Nat) : BitVec 2 := BitVec.ofNat 2 w

/-- The rows of format OPSEL (R84). -/
def opselRows : List OpRow :=
  [ ⟨4, 0xF, 0x0, fun _ => .clStart⟩,
    ⟨4, 0xF, 0x1, fun _ => .clInput⟩,
    ⟨4, 0xF, 0x2, fun _ => .clSensor⟩,
    ⟨4, 0xF, 0x3, fun _ => .clAct⟩,
    ⟨4, 0xF, 0x4, fun _ => .clIdle⟩,
    ⟨4, 0xF, 0x5, fun _ => .plBegin⟩,
    ⟨4, 0xF, 0x6, fun _ => .plReadraw⟩,
    ⟨4, 0xF, 0x7, fun _ => .tdDecode⟩,
    ⟨4, 0xF, 0x8, fun _ => .plCsassert⟩,
    ⟨4, 0xF, 0x9, fun _ => .plClkhi⟩,
    ⟨4, 0xF, 0xA, fun _ => .plSample⟩,
    ⟨4, 0xF, 0xB, fun _ => .plClklo⟩,
    ⟨4, 0xF, 0xC, fun _ => .plCsrelease⟩,
    ⟨4, 0xF, 0xD, fun _ => .tdRound⟩,
    ⟨4, 0xF, 0xE, fun _ => .tdClamp⟩,
    ⟨4, 0xF, 0xF, fun _ => .adPulse⟩ ]

/-- The rows of format RAW16: the decode class is bit 2 alone (R82). -/
def raw16Rows : List OpRow :=
  [ ⟨16, 0x0004, 0x0004, fun w => .rawFault (fieldQ w) (fieldSr w)⟩,
    ⟨16, 0x0004, 0x0000, fun w => .rawTemp (fieldQ w) (fieldSr w)⟩ ]

/-- The whole table. -/
def opcodeTable : List OpRow := opselRows ++ raw16Rows

/-- A row holds of a code word. -/
def OpRow.holds (r : OpRow) (c : CodeWord) : Bool :=
  r.nbits == c.nbits && (c.bits &&& r.mask) == r.pattern

/-- The operation a code word names, or why it names none. -/
def decode (c : CodeWord) : Except DecodeError Instr :=
  if 2 ^ c.nbits ≤ c.bits then .error .tooWide
  else
    match opcodeTable.find? (fun r => r.holds c) with
    | some r => .ok (r.build c.bits)
    | none => .error .noSuchFormat

/-- The code word of the table's own numbering: a row of whole bytes is 16 bits for RAW16 and, padded with zeros
above, one byte for the four bits of OPSEL (log 15). -/
def tableCode (nbits w : Nat) : CodeWord :=
  if nbits ≤ 8 then ⟨4, w⟩ else ⟨nbits, w⟩

/-- What the decoder reads from a table word. -/
def decodeTableWord (nbits w : Nat) : Option Instr :=
  match decode (tableCode nbits w) with
  | .ok i => some i
  | .error _ => none

/-- The RAW16 word `q :: oc :: sr`, that is `8*q + 4*oc + sr` (R80). -/
def rawWord (q : Quarters) (oc : Bool) (sr : BitVec 2) : Nat :=
  8 * q.toNat + 4 * oc.toNat + sr.toNat

/-- The code word of an operation. -/
def encode : Instr → CodeWord
  | .clStart => ⟨4, 0x0⟩
  | .clInput => ⟨4, 0x1⟩
  | .clSensor => ⟨4, 0x2⟩
  | .clAct => ⟨4, 0x3⟩
  | .clIdle => ⟨4, 0x4⟩
  | .plBegin => ⟨4, 0x5⟩
  | .plReadraw => ⟨4, 0x6⟩
  | .tdDecode => ⟨4, 0x7⟩
  | .plCsassert => ⟨4, 0x8⟩
  | .plClkhi => ⟨4, 0x9⟩
  | .plSample => ⟨4, 0xA⟩
  | .plClklo => ⟨4, 0xB⟩
  | .plCsrelease => ⟨4, 0xC⟩
  | .tdRound => ⟨4, 0xD⟩
  | .tdClamp => ⟨4, 0xE⟩
  | .adPulse => ⟨4, 0xF⟩
  | .rawFault q sr => ⟨16, rawWord q true sr⟩
  | .rawTemp q sr => ⟨16, rawWord q false sr⟩

end Sys2Proof
end

