-- ==== Sys2Proof/Machine/State.lean ====
section
/-! DEFINITION. The state of the block: every register, latch and parameter the spec gives it, the environment's side
of its inputs, and the state at power-on. -/

namespace Sys2Proof.Machine

/-- The direction of a line as `begin()` sets it (R52, R101). -/
inductive Direction where
  /-- Before `begin()`: the block does not drive or listen to the line (R23, R231). -/
  | notConfigured
  | input
  | output
  deriving DecidableEq, Repr

/-- The lines the block drives (R51, R55). -/
inductive OutLine where
  | cs
  | clk
  | act
  deriving DecidableEq, Repr

/-- The lines the block samples (R51, R56). -/
inductive InLine where
  | data
  | req
  deriving DecidableEq, Repr

/-- The registers written by name (10_state.md section 1). CS, CLK and ACT are latches, written by `LineWrite`. -/
inductive Reg where
  | phase
  | plPhase
  | plCfg
  | shreg
  | bitcnt
  | currentTemperature
  | actuatorRequested
  | notConnected
  | lastSensor
  | lastAct
  deriving DecidableEq, Repr

/-- One event of the history `H` (R62), under the spec's own letters. -/
inductive Event where
  /-- `W(l, b)`: the output line takes the level. -/
  | W (l : OutLine) (b : Bool)
  /-- `R(l, b)`: the input line was sampled. -/
  | R (l : InLine) (b : Bool)
  /-- `T(now)`: the clock was sampled. -/
  | T (now : Ms)
  /-- `D(t)`: a delay of at least `t` nanoseconds. -/
  | D (t : Nat)
  /-- `S(name, v)`, for every register that one atomic update writes (R60; log 18). -/
  | S (writes : List (Reg × Nat))
  deriving DecidableEq, Repr

/-- What the decoder makes of a RawSample (R86, R130). -/
inductive Reading where
  /-- `FaultOpenCircuit`, also called SensorFault (R200). -/
  | fault
  /-- A temperature of `q` quarter degrees. -/
  | temp (q : Quarters)
  deriving DecidableEq, Repr

/-- The environment's side of the inputs: what the platform's clock has counted, what a test bench has scripted
(R57, R92), and how many free values have been taken. None of it is a register of the block (R36). -/
structure Env where
  /-- The true milliseconds the platform clock has counted; `NOW` is this modulo `2^W` (R58; log 5). -/
  ms : Nat
  /-- DATA bits still to come from a scripted sensor (log 3). -/
  data : List Bool
  /-- REQ_IN samples still to come from a script (log 4). -/
  req : List Bool
  /-- Clock advances still to come from a script (log 5). -/
  clock : List Nat
  /-- How many free values the run has taken. The model's own field (log 3). -/
  draws : Nat
  deriving DecidableEq, Repr

/-- The state. INVENTORY.md lists each field with the rule that names it. -/
structure State where
  /-- The parameters fixed at construction time (R6, R186). -/
  cfg : Params
  /-- Code of the ControlLoop operation that executes next (R21). -/
  phase : SeqCode
  /-- Position in the transaction (R22). -/
  plPhase : SeqCode
  /-- `begin()` has run (R23). -/
  plCfg : Bool
  /-- Direction of CS (R52). -/
  csDir : Direction
  /-- Direction of CLK (R52). -/
  clkDir : Direction
  /-- Direction of DATA (R52). -/
  dataDir : Direction
  /-- Output latch of CS, high is deasserted (R24). -/
  cs : Bool
  /-- Output latch of CLK (R25). -/
  clk : Bool
  /-- Output latch of the actuator line, true is asserted (R34). -/
  act : Bool
  /-- The RawSample accumulator (R26). -/
  shreg : RawSample
  /-- Clock pulses completed in the transaction (R27). -/
  bitcnt : BitVec 5
  /-- The published temperature (R28). -/
  currentTemperature : Degrees
  /-- The latched request (R29). -/
  actuatorRequested : Bool
  /-- The "not connected" flag (R30). -/
  notConnected : Bool
  /-- Clock value at the last sensor expiry (R33). -/
  lastSensor : Ms
  /-- Clock value at the last actuator expiry (R33). -/
  lastAct : Ms
  /-- What TD.DECODE last delivered. The model's own field (log 12). -/
  reading : Reading
  /-- What TD.ROUND last delivered, in degrees. The model's own field (log 12). -/
  rounded : Int
  /-- What TD.CLAMP last delivered. The model's own field (log 12). -/
  clamped : Degrees
  /-- The event history `H`, oldest first (R62). -/
  hist : List Event
  /-- The environment's side of the inputs. -/
  env : Env
  /-- Code words a test bench has selected, run before the sequencer's own choice. The model's own field (log 7). -/
  bench : List CodeWord
  deriving DecidableEq, Repr

/-- No behaviour of the block is a fault: it has no trap and no error channel (R202, R207; U17's closing remark).
So no constructor stands here (log 25). -/
inductive Fault where
  deriving DecidableEq, Repr

/-- Why the model gives no step. Each is safe: the model stops where the spec gives no meaning. -/
inductive Refusal where
  /-- An operation that has no meaning yet, by its mnemonic. Raised by an arm of `exec`. Safe. -/
  | notModelled (mnemonic : String)
  /-- A transaction with `pl_cfg` = 0 (R102, R235, U1). Raised by PL.READRAW, and by CL.SENSOR on expiry. Safe. -/
  | linesNotConfigured
  /-- `phase` holds 5, 6 or 7 (R90, U9). Raised by the sequencer. Safe. -/
  | illegalPhase
  /-- `pl_phase` holds 5, 6 or 7 (R90, U9). Raised by the sequencer. Safe. -/
  | illegalPlPhase
  /-- The parameters break a constraint (R236, U12). Raised by the sequencer. Safe. -/
  | illegalConfig
  /-- A test bench selected a word that names no operation (R91). Raised by the sequencer. Safe. -/
  | badCode (e : DecodeError)
  deriving DecidableEq, Repr

/-- What the sequencer selects (log 9). -/
inductive Fetched where
  /-- Run the operation in this state; the flag says that its end returns into CL.SENSOR. -/
  | run (i : Instr) (s : State) (returns : Bool)
  /-- No operation can be selected. -/
  | stop (r : Refusal)
  deriving DecidableEq, Repr

/-- Power-on (R37, R231). The spec gives `phase`, `pl_phase` and `pl_cfg`; the lines are not configured, so not driven.
DESIGN CHOICE (log 1, unsafe): every register and latch the spec leaves unspecified holds zero. -/
def State.reset : State where
  cfg := Params.default
  phase := 0
  plPhase := 0
  plCfg := false
  csDir := .notConfigured
  clkDir := .notConfigured
  dataDir := .notConfigured
  cs := false
  clk := false
  act := false
  shreg := 0
  bitcnt := 0
  currentTemperature := 0
  actuatorRequested := false
  notConnected := false
  lastSensor := 0
  lastAct := 0
  reading := .temp 0
  rounded := 0
  clamped := 0
  hist := []
  env := { ms := 0, data := [], req := [], clock := [], draws := 0 }
  bench := []

end Sys2Proof.Machine
end

