-- ==== Sys2Proof/Machine/Operands.lean ====
section
/-! DEFINITION. The value functions of the block: the arithmetic that rule R139 collects, as total functions with no
state argument (R132). -/

namespace Sys2Proof.Machine

/-- TD.DECODE as a function: the fault bit first, regardless of the rest, then bits 15:3 (R131). -/
def decodeSample (v : RawSample) : Reading :=
  if v.getLsbD Config.faultBit then .fault
  else .temp (v.extractLsb' Config.dataShift 13)

/-- TD.ROUND as a function on quarter degrees: to the nearest integer, ties away from zero (R134, D6). -/
def roundQuarters (q : Int) : Int :=
  if 0 ≤ q then (q + 2) / Config.countsPerDegree
  else -((-q + 2) / Config.countsPerDegree)

/-- TD.CLAMP as a function on all integers (R135). -/
def clampDegrees (n : Int) : Int :=
  if n < Config.tMin then Config.tMin
  else if Config.tMax < n then Config.tMax
  else n

/-- The clamped integer in the 9 bits that hold it (R28, R87). -/
def clampedWord (n : Int) : Degrees := BitVec.ofInt 9 (clampDegrees n)

/-- `(now - last) mod 2^W` (R139 (5), R154). -/
def elapsed (now last : Ms) : Nat := (now - last).toNat

/-- The elapsed-time test of a timer, with `>=` (R154, R157). -/
def expired (now last : Ms) (period : Nat) : Bool := decide (period ≤ elapsed now last)

/-- Bit `15 - i` of the accumulator takes the level `d`; the other bits stay (R107). For `i` at most 15. -/
def setSampleBit (v : RawSample) (i : Nat) (d : Bool) : RawSample :=
  let m : RawSample := 1#16 <<< (Config.rawBits - 1 - i)
  if d then v ||| m else v &&& ~~~m

/-- The bits of a scripted sensor's word, most significant first (R57, R61). -/
def wordBits (w : RawSample) : List Bool :=
  (List.range Config.rawBits).map (fun i => w.getLsbD (Config.rawBits - 1 - i))

/-- The codes of `phase` (R21). -/
abbrev phaseStart : SeqCode := 0
/-- See `phaseStart`. -/
abbrev phaseInput : SeqCode := 1
/-- See `phaseStart`. -/
abbrev phaseSensor : SeqCode := 2
/-- See `phaseStart`. -/
abbrev phaseAct : SeqCode := 3
/-- See `phaseStart`. -/
abbrev phaseIdle : SeqCode := 4

/-- The codes of `pl_phase` (R22). -/
abbrev plIdle : SeqCode := 0
/-- See `plIdle`. -/
abbrev plHigh : SeqCode := 1
/-- See `plIdle`. -/
abbrev plSample : SeqCode := 2
/-- See `plIdle`. -/
abbrev plLow : SeqCode := 3
/-- See `plIdle`. -/
abbrev plRelease : SeqCode := 4

end Sys2Proof.Machine
end

