-- ==== Sys2Proof/Machine/Ops.lean ====
section
/-! DEFINITION. The named operations on the state: the environment's draws, the four access primitives, the register
writes, what the transaction and the actuator do, and how the sequencer selects the next operation. -/

namespace Sys2Proof.Machine

/-! The environment's draws (R57, R58, R69): the script's next entry, else a free value. -/

/-- The level of DATA at the next sample. -/
def Env.dataBit (e : Env) : Bool :=
  match e.data with
  | b :: _ => b
  | [] => Config.freeData e.draws

/-- The environment after a sample of DATA. -/
def Env.popData (e : Env) : Env :=
  match e.data with
  | _ :: bs => { e with data := bs }
  | [] => { e with draws := e.draws + 1 }

/-- The level of REQ_IN at the next sample. -/
def Env.reqBit (e : Env) : Bool :=
  match e.req with
  | b :: _ => b
  | [] => Config.freeReq e.draws

/-- The environment after a sample of REQ_IN. -/
def Env.popReq (e : Env) : Env :=
  match e.req with
  | _ :: bs => { e with req := bs }
  | [] => { e with draws := e.draws + 1 }

/-- The milliseconds `d >= 0` by which the clock advances before the next sample (R58). -/
def Env.advance (e : Env) : Nat :=
  match e.clock with
  | d :: _ => d
  | [] => Config.freeAdvance e.draws

/-- The environment at the next sample of the clock. -/
def Env.popClock (e : Env) : Env :=
  match e.clock with
  | d :: ds => { e with ms := e.ms + d, clock := ds }
  | [] => { e with ms := e.ms + Config.freeAdvance e.draws, draws := e.draws + 1 }

/-- `NOW`, the true count modulo `2^W` (R58). -/
def Env.now (e : Env) : Ms := BitVec.ofNat Config.msClockBits e.ms

/-- The environment after a free value other than an input was taken. -/
def Env.popFree (e : Env) : Env := { e with draws := e.draws + 1 }

/-! The access primitives. Each appends its one event to `H` (R8, R62). -/

/-- `LineWrite(l, b)` (R55). -/
def State.lineWrite (s : State) (l : OutLine) (b : Bool) : State :=
  match l with
  | .cs => { s with cs := b, hist := s.hist ++ [.W .cs b] }
  | .clk => { s with clk := b, hist := s.hist ++ [.W .clk b] }
  | .act => { s with act := b, hist := s.hist ++ [.W .act b] }

/-- The bit `LineRead(DATA)` returns (R56, R57). -/
def State.dataBit (s : State) : Bool := s.env.dataBit

/-- The state after `LineRead(DATA)`. -/
def State.readData (s : State) : State :=
  { s with env := s.env.popData, hist := s.hist ++ [.R .data s.dataBit] }

/-- The bit `LineRead(REQ_IN)` returns (R56, R69). -/
def State.reqBit (s : State) : Bool := s.env.reqBit

/-- The state after `LineRead(REQ_IN)`. -/
def State.readReq (s : State) : State :=
  { s with env := s.env.popReq, hist := s.hist ++ [.R .req s.reqBit] }

/-- The value `ClockRead()` returns (R58). -/
def State.clockNow (s : State) : Ms := s.env.popClock.now

/-- The state after `ClockRead()`. -/
def State.readClock (s : State) : State :=
  { s with env := s.env.popClock, hist := s.hist ++ [.T s.clockNow] }

/-- `Delay(t)`: only the mark in `H` (R59). -/
def State.delay (s : State) (t : Nat) : State := { s with hist := s.hist ++ [.D t] }

/-! Register writes: one atomic update and its event each (R60). -/

/-- `phase <- p`. -/
def State.writePhase (s : State) (p : SeqCode) : State :=
  { s with phase := p, hist := s.hist ++ [.S [(.phase, p.toNat)]] }

/-- `S.pl_phase <- p`. -/
def State.writePlPhase (s : State) (p : SeqCode) : State :=
  { s with plPhase := p, hist := s.hist ++ [.S [(.plPhase, p.toNat)]] }

/-- `S.pl_cfg <- b`. -/
def State.writePlCfg (s : State) (b : Bool) : State :=
  { s with plCfg := b, hist := s.hist ++ [.S [(.plCfg, b.toNat)]] }

/-- `S.shreg <- v`. -/
def State.writeShreg (s : State) (v : RawSample) : State :=
  { s with shreg := v, hist := s.hist ++ [.S [(.shreg, v.toNat)]] }

/-- `S.bitcnt <- n`. -/
def State.writeBitcnt (s : State) (n : BitVec 5) : State :=
  { s with bitcnt := n, hist := s.hist ++ [.S [(.bitcnt, n.toNat)]] }

/-- `S.currentTemperature <- t`. -/
def State.writeTemperature (s : State) (t : Degrees) : State :=
  { s with currentTemperature := t, hist := s.hist ++ [.S [(.currentTemperature, t.toNat)]] }

/-- `S.actuatorRequested <- b`. -/
def State.writeRequested (s : State) (b : Bool) : State :=
  { s with actuatorRequested := b, hist := s.hist ++ [.S [(.actuatorRequested, b.toNat)]] }

/-- `S.notConnected <- b`. -/
def State.writeNotConnected (s : State) (b : Bool) : State :=
  { s with notConnected := b, hist := s.hist ++ [.S [(.notConnected, b.toNat)]] }

/-- `atomically: S.currentTemperature <- t; S.notConnected <- b`, one update and one event (R32, R60, R155). -/
def State.writeReport (s : State) (t : Degrees) (b : Bool) : State :=
  { s with
    currentTemperature := t
    notConnected := b
    hist := s.hist ++ [.S [(.currentTemperature, t.toNat), (.notConnected, b.toNat)]] }

/-- `S.lastSensor <- now`. -/
def State.writeLastSensor (s : State) (now : Ms) : State :=
  { s with lastSensor := now, hist := s.hist ++ [.S [(.lastSensor, now.toNat)]] }

/-- `S.lastAct <- now`. -/
def State.writeLastAct (s : State) (now : Ms) : State :=
  { s with lastAct := now, hist := s.hist ++ [.S [(.lastAct, now.toNat)]] }

/-- The three directions of `begin()` (R52, R101). -/
def State.configureLines (s : State) : State :=
  { s with csDir := .output, clkDir := .output, dataDir := .input }

/-- A free value other than an input was taken. -/
def State.takeFree (s : State) : State := { s with env := s.env.popFree }

/-! What a transaction is made of (40_protocol_link.md). -/

/-- The idle levels of CS and CLK, in either order (R101, U7). -/
def State.idleLines (s : State) : State :=
  if Config.freeBeginOrder s.env.draws then (s.takeFree.lineWrite .clk false).lineWrite .cs true
  else (s.takeFree.lineWrite .cs true).lineWrite .clk false

/-- `begin()` (R101). -/
def State.begin (s : State) : State := s.configureLines.idleLines.writePlCfg true

/-- PL.CSASSERT (R105). -/
def State.csAssert (s : State) : State :=
  (((s.lineWrite .cs false).writeShreg 0).writeBitcnt 0).writePlPhase plHigh

/-- PL.CLKHI (R106). -/
def State.clkHi (s : State) : State :=
  ((s.lineWrite .clk true).delay s.cfg.tSettleNs).writePlPhase plSample

/-- The sampled bit goes into `shreg` (R107). With `bitcnt` above 15 there is no bit `15 - bitcnt`, and the value of
`shreg` is free (DESIGN CHOICE, safe, log 10). -/
def State.storeSample (s : State) (d : Bool) : State :=
  if s.bitcnt.toNat < Config.rawBits then s.writeShreg (setSampleBit s.shreg s.bitcnt.toNat d)
  else s.takeFree.writeShreg (Config.freeShreg s.env.draws)

/-- PL.SAMPLE (R107). -/
def State.sample (s : State) : State :=
  (s.readData.storeSample s.dataBit).writePlPhase plLow

/-- `S.bitcnt <- S.bitcnt + 1` (R108). At 31 the sum does not fit the register, and its value is free
(DESIGN CHOICE, safe, log 11). -/
def State.countPulse (s : State) : State :=
  if s.bitcnt.toNat < 31 then s.writeBitcnt (s.bitcnt + 1)
  else s.takeFree.writeBitcnt (Config.freeBitcnt s.env.draws)

/-- The test at the end of PL.CLKLO, on the incremented count (R108). -/
def State.afterPulse (s : State) : State :=
  s.writePlPhase (if s.bitcnt.toNat = Config.rawBits then plRelease else plHigh)

/-- PL.CLKLO (R108). -/
def State.clkLo (s : State) : State :=
  (((s.lineWrite .clk false).delay s.cfg.tSettleNs).countPulse).afterPulse

/-- PL.CSRELEASE (R109). The value it returns is `shreg`, which it leaves as it is. -/
def State.csRelease (s : State) : State := (s.lineWrite .cs true).writePlPhase plIdle

/-- One clock pulse with its sample (R93 (a)). -/
def State.pulse (s : State) : State := s.clkHi.sample.clkLo

/-- `n` pulses, one after the other. -/
def State.pulses : Nat → State → State
  | 0, s => s
  | n + 1, s => State.pulses n s.pulse

/-- The frame of one transaction (R93 (a), R104). -/
def State.transaction (s : State) : State :=
  (State.pulses Config.rawBits s.csAssert).csRelease

/-- Go on from a next state. -/
def onNext (o : Host.Outcome State Fault Refusal) (f : State → Host.Outcome State Fault Refusal) :
    Host.Outcome State Fault Refusal :=
  match o with
  | .next s => f s
  | .fault r => .fault r
  | .refused r => .refused r

/-- PL.READRAW: refused on unconfigured lines, else the transaction (R102). -/
def State.readRaw (s : State) : Host.Outcome State Fault Refusal :=
  if s.plCfg then .next s.transaction else .refused .linesNotConfigured

/-! The decoder and the round-and-clamp stage; their results lie in the model's own fields (R132; log 12). -/

/-- TD.DECODE of the RawSample in `shreg` (R131). -/
def State.decodeRaw (s : State) : State := { s with reading := decodeSample s.shreg }

/-- TD.ROUND of the reading's count (R134). A reading that is Fault has no count, and the result is free
(DESIGN CHOICE, safe, log 13). -/
def State.roundReading (s : State) : State :=
  match s.reading with
  | .temp q => { s with rounded := roundQuarters q.toNat }
  | .fault => { s.takeFree with rounded := Config.freeRound s.env.draws }

/-- TD.CLAMP of the rounded integer (R135). -/
def State.clampRounded (s : State) : State := { s with clamped := clampedWord s.rounded }

/-! The actuator (R181) and the selection of the next operation. -/

/-- AD.PULSE: assert, hold, deassert (R181). -/
def State.actPulse (s : State) : State :=
  ((s.lineWrite .act true).delay s.cfg.tPulseNs).lineWrite .act false

/-- A restart of the whole system: power-on, with the configuration and the environment as they are
(R186, R230; log 27). -/
def State.restart (s : State) : State := { State.reset with cfg := s.cfg, env := s.env }

/-- The ControlLoop operation whose code `phase` holds (R21, R85). -/
def phaseOp (p : SeqCode) : Option Instr :=
  match p.toNat with
  | 0 => some .clStart
  | 1 => some .clInput
  | 2 => some .clSensor
  | 3 => some .clAct
  | 4 => some .clIdle
  | _ => none

/-- The micro-operation that `pl_phase` names, PL_IDLE naming none (R22, R85). -/
def microOp (p : SeqCode) : Option Instr :=
  match p.toNat with
  | 1 => some .plClkhi
  | 2 => some .plSample
  | 3 => some .plClklo
  | 4 => some .plCsrelease
  | _ => none

/-- The sequencer's own choice: the micro-operation of a transaction in progress, else the phase. The end of a
transaction in phase SENSOR returns into CL.SENSOR, whose blocking call it is (R22; log 9). -/
def State.sequence (s : State) : Fetched :=
  match microOp s.plPhase with
  | some i => .run i s (decide (s.plPhase = plRelease ∧ s.phase = phaseSensor))
  | none =>
    match phaseOp s.phase with
    | some i => .run i s false
    | none => .stop .illegalPhase

/-- The next operation: a configuration or a sequencer value without meaning is refused (R90, R236), then a test
bench's code word, then the sequencer's own choice (log 7, log 17). -/
def State.fetch (s : State) : Fetched :=
  if s.cfg.wf = false then .stop .illegalConfig
  else if 4 < s.phase.toNat then .stop .illegalPhase
  else if 4 < s.plPhase.toNat then .stop .illegalPlPhase
  else
    match s.bench with
    | [] => s.sequence
    | c :: rest =>
      match decode c with
      | .ok i => .run i { s with bench := rest } false
      | .error e => .stop (.badCode e)

end Sys2Proof.Machine
end

