-- ==== Sys2Proof/Machine/Actuator.lean ====
section
/-! DEFINITION. ActuatorDriver's one operation (43_collaborator_interfaces.md). -/

namespace Sys2Proof.Machine

/-- AD.PULSE (R181). -/
def execAdPulse (s : State) : Host.Outcome State Fault Refusal := .next s.actPulse

end Sys2Proof.Machine
end

