-- ==== Sys2Proof/Machine/Flags.lean ====
section
/-! DEFINITION. The block's one flag, `notConnected` (R30), and the one outcome that sets it. SensorFault is no trap:
nothing is saved and control goes on (R200, R207). -/

namespace Sys2Proof.Machine

/-- The outcome SensorFault: the whole of its handling is one write (R207). -/
def State.takeSensorFault (s : State) : State := s.writeNotConnected true

/-- A good poll: the temperature and the cleared flag in one update, which is also the recovery (R155, R209). -/
def State.publish (s : State) : State :=
  s.roundReading.clampRounded.writeReport s.roundReading.clampRounded.clamped false

/-- The poll's two outcomes (R155). -/
def State.serviceReading (s : State) : State :=
  match s.reading with
  | .fault => s.takeSensorFault
  | .temp _ => s.publish

/-- What CL.SENSOR does after its transaction has returned (R153). -/
def State.finishPoll (s : State) : State := s.decodeRaw.serviceReading.writePhase phaseAct

/-- What the sequencer adds after an operation: where the flag says so, the return into CL.SENSOR (R22; log 9). -/
def afterExec (returns : Bool) (o : Host.Outcome State Fault Refusal) : Host.Outcome State Fault Refusal :=
  if returns then onNext o (fun s => .next s.finishPoll) else o

end Sys2Proof.Machine
end

