-- ==== Sys2Proof/Machine/ControlLoop.lean ====
section
/-! DEFINITION. ControlLoop, the cooperative two-timer scheduler (42_control_loop.md). -/

namespace Sys2Proof.Machine

/-- The first three writes of CL.START: ControlState and the flag (R151, D27). -/
def State.clearControl (s : State) : State :=
  ((s.writeTemperature 0).writeRequested false).writeNotConnected false

/-- Both timers take one clock sample (R151, D11). -/
def State.startTimers (s : State) : State :=
  (s.readClock.writeLastSensor s.clockNow).writeLastAct s.clockNow

/-- CL.START (R151). -/
def execClStart (s : State) : Host.Outcome State Fault Refusal :=
  .next (((s.clearControl.lineWrite .act false).begin.startTimers).writePhase phaseInput)

/-- CL.INPUT (R152). -/
def execClInput (s : State) : Host.Outcome State Fault Refusal :=
  .next ((s.readReq.writeRequested s.reqBit).writePhase phaseSensor)

/-- CL.SENSOR (R153): on expiry the timer is reloaded before the transaction starts (R154). -/
def execClSensor (s : State) : Host.Outcome State Fault Refusal :=
  if expired s.clockNow s.lastSensor s.cfg.sensorPeriodMs then
    onNext (s.readClock.writeLastSensor s.clockNow).readRaw (fun t => .next t.finishPoll)
  else .next (s.readClock.writePhase phaseAct)

/-- What CL.ACT does on expiry: reload, and a pulse if the latched request is true (R157, R158). -/
def State.serviceActuator (s : State) (now : Ms) : State :=
  if s.actuatorRequested then (s.writeLastAct now).actPulse else s.writeLastAct now

/-- The actuator timer's test and its service (R156, R157). -/
def State.checkActuator (s : State) : State :=
  if expired s.clockNow s.lastAct s.cfg.actPeriodMs then s.readClock.serviceActuator s.clockNow
  else s.readClock

/-- CL.ACT (R156). -/
def execClAct (s : State) : Host.Outcome State Fault Refusal :=
  .next (s.checkActuator.writePhase phaseIdle)

/-- CL.IDLE (R160). -/
def execClIdle (s : State) : Host.Outcome State Fault Refusal :=
  .next ((s.delay s.cfg.tIdleNs).writePhase phaseInput)

end Sys2Proof.Machine
end

