-- ==== Sys2Proof/Machine/ProtocolLink.lean ====
section
/-! DEFINITION. ProtocolLink, the bit-bang serial engine (40_protocol_link.md). -/

namespace Sys2Proof.Machine

/-- PL.BEGIN (R101). -/
def execPlBegin (s : State) : Host.Outcome State Fault Refusal := .next s.begin

/-- PL.READRAW (R102). -/
def execPlReadraw (s : State) : Host.Outcome State Fault Refusal := s.readRaw

/-- PL.CSASSERT (R105). -/
def execPlCsassert (s : State) : Host.Outcome State Fault Refusal := .next s.csAssert

/-- PL.CLKHI (R106). -/
def execPlClkhi (s : State) : Host.Outcome State Fault Refusal := .next s.clkHi

/-- PL.SAMPLE (R107). -/
def execPlSample (s : State) : Host.Outcome State Fault Refusal := .next s.sample

/-- PL.CLKLO (R108). -/
def execPlClklo (s : State) : Host.Outcome State Fault Refusal := .next s.clkLo

/-- PL.CSRELEASE (R109). -/
def execPlCsrelease (s : State) : Host.Outcome State Fault Refusal := .next s.csRelease

end Sys2Proof.Machine
end

