-- ==== Sys2Proof/Machine/TemperatureDecoder.lean ====
section
/-! DEFINITION. TemperatureDecoder and the round-and-clamp stage (41_temperature_decoder.md). These operations touch
no register, line or flag; they write the model's result fields. -/

namespace Sys2Proof.Machine

/-- TD.DECODE of the RawSample that the transaction left in `shreg` (R131). -/
def execTdDecode (s : State) : Host.Outcome State Fault Refusal := .next s.decodeRaw

/-- TD.ROUND (R134). -/
def execTdRound (s : State) : Host.Outcome State Fault Refusal := .next s.roundReading

/-- TD.CLAMP (R135). -/
def execTdClamp (s : State) : Host.Outcome State Fault Refusal := .next s.clampRounded

/-- TD.DECODE given a data word of class RAW.FAULT: Fault, regardless of `q` and `sr` (R82, R89, R131). -/
def execRawFault (_q : Quarters) (_sr : BitVec 2) (s : State) : Host.Outcome State Fault Refusal :=
  .next { s with reading := .fault }

/-- TD.DECODE given a data word of class RAW.TEMP: the count `q`, regardless of `sr` (R82, R89, R131). -/
def execRawTemp (q : Quarters) (_sr : BitVec 2) (s : State) : Host.Outcome State Fault Refusal :=
  .next { s with reading := .temp q }

end Sys2Proof.Machine
end

