-- ==== Sys2Proof/Machine/Dispatch.lean ====
section
/-! DEFINITION. One arm per operation, each one direct call of its meaning. -/

namespace Sys2Proof.Machine

def exec (i : Instr) (s : State) : Host.Outcome State Fault Refusal :=
  match i with
  | .clStart => Sys2Proof.Machine.execClStart s
  | .clInput => Sys2Proof.Machine.execClInput s
  | .clSensor => Sys2Proof.Machine.execClSensor s
  | .clAct => Sys2Proof.Machine.execClAct s
  | .clIdle => Sys2Proof.Machine.execClIdle s
  | .plBegin => Sys2Proof.Machine.execPlBegin s
  | .plReadraw => Sys2Proof.Machine.execPlReadraw s
  | .tdDecode => Sys2Proof.Machine.execTdDecode s
  | .plCsassert => Sys2Proof.Machine.execPlCsassert s
  | .plClkhi => Sys2Proof.Machine.execPlClkhi s
  | .plSample => Sys2Proof.Machine.execPlSample s
  | .plClklo => Sys2Proof.Machine.execPlClklo s
  | .plCsrelease => Sys2Proof.Machine.execPlCsrelease s
  | .tdRound => Sys2Proof.Machine.execTdRound s
  | .tdClamp => Sys2Proof.Machine.execTdClamp s
  | .adPulse => Sys2Proof.Machine.execAdPulse s
  | .rawFault q sr => Sys2Proof.Machine.execRawFault q sr s
  | .rawTemp q sr => Sys2Proof.Machine.execRawTemp q sr s

end Sys2Proof.Machine
end

