-- ==== Sys2Proof/Machine/Step.lean ====
section
/-! DEFINITION. One step: select the next operation, run it, and return into CL.SENSOR where a transaction that the
sequencer ran by its micro-operations has ended (log 8, log 9). -/

namespace Sys2Proof.Machine

/-- One step of the block. -/
def step (s : State) : Host.Outcome State Fault Refusal :=
  match s.fetch with
  | .run i t returns => afterExec returns (exec i t)
  | .stop r => .refused r

/-- A table word placed where the step selects its next operation: first of the test bench's words (log 7, log 15). -/
def State.withFetchWord (s : State) (nbits w : Nat) : State :=
  { s with bench := tableCode nbits w :: s.bench }

end Sys2Proof.Machine
end

