-- ==== Sys2Proof/Machine/Ports.lean ====
section
/-! DEFINITION. What the agents around the block can see of it: the levels on its lines, the three output registers,
and the access rights of rule R212. Nothing here is read by an operation. -/

namespace Sys2Proof.Machine

/-- The level of the last `W` event of a line in a history, where there is one. -/
def lastWrite (l : OutLine) : List Event → Option Bool
  | [] => none
  | e :: rest =>
    match lastWrite l rest with
    | some b => some b
    | none =>
      match e with
      | .W l' b => if l' = l then some b else none
      | _ => none

/-- The value of a register's last write in a history, where there is one. -/
def lastValue (r : Reg) : List Event → Option Nat
  | [] => none
  | e :: rest =>
    match lastValue r rest with
    | some v => some v
    | none =>
      match e with
      | .S ws => (ws.find? (fun w => w.1 = r)).map (·.2)
      | _ => none

/-- The latch of an output line. -/
def State.latch (s : State) : OutLine → Bool
  | .cs => s.cs
  | .clk => s.clk
  | .act => s.act

/-- The value of a register as a number. -/
def State.regValue (s : State) : Reg → Nat
  | .phase => s.phase.toNat
  | .plPhase => s.plPhase.toNat
  | .plCfg => s.plCfg.toNat
  | .shreg => s.shreg.toNat
  | .bitcnt => s.bitcnt.toNat
  | .currentTemperature => s.currentTemperature.toNat
  | .actuatorRequested => s.actuatorRequested.toNat
  | .notConnected => s.notConnected.toNat
  | .lastSensor => s.lastSensor.toNat
  | .lastAct => s.lastAct.toNat

/-- The electrical level of the actuator line for a logical level (R181, D18). -/
def State.actLevel (s : State) : Bool := if s.act then s.cfg.actActiveLevel else !s.cfg.actActiveLevel

/-- The electrical level of an output line as a device sees it, or nothing while the block does not drive the line:
CS and CLK before `begin()`, ACT before its first write (R23, R231, U14; log 2). -/
def State.lineLevel (s : State) : OutLine → Option Bool
  | .cs => if s.csDir = .output then some s.cs else none
  | .clk => if s.clkDir = .output then some s.clk else none
  | .act => if (lastWrite .act s.hist).isSome then some s.actLevel else none

/-- What the display shows (R184). -/
inductive Display where
  /-- The literal text "not connected". -/
  | notConnectedText
  /-- The temperature in whole degrees. -/
  | degrees (n : Nat)
  deriving DecidableEq, Repr

/-- What the display shows of a state (R184, R219). -/
def State.display (s : State) : Display :=
  if s.notConnected then .notConnectedText else .degrees s.currentTemperature.toNat

/-- The agents of the table in R212. -/
inductive Agent where
  | block
  | displayPublisher
  | actuator
  | uiInput
  | sensor
  | platform
  deriving DecidableEq, Repr

/-- What the table in R212 gives rights on. The registers CS, CLK and ACT of 10_state.md are the latches; the lines they
drive are items of their own. -/
inductive Item where
  /-- A register written by name. -/
  | reg (r : Reg)
  /-- The register CS, CLK or ACT (R24, R25, R34). -/
  | latch (l : OutLine)
  /-- An output line as a device sees it. -/
  | out (l : OutLine)
  | inp (l : InLine)
  | now
  deriving DecidableEq, Repr

/-- The column "may write" of R212. -/
def Agent.mayWrite : Agent → Item → Bool
  | .block, .reg _ => true
  | .block, .latch _ => true
  | .block, .out _ => true
  | .uiInput, .inp .req => true
  | .sensor, .inp .data => true
  | .platform, .now => true
  | _, _ => false

/-- The column "may read" of R212. -/
def Agent.mayRead : Agent → Item → Bool
  | .block, .reg _ => true
  | .block, .latch _ => true
  | .block, .inp _ => true
  | .block, .now => true
  | .displayPublisher, .reg .currentTemperature => true
  | .displayPublisher, .reg .notConnected => true
  | .displayPublisher, .reg .actuatorRequested => true
  | .actuator, .reg .actuatorRequested => true
  | .actuator, .out .act => true
  | .sensor, .out .cs => true
  | .sensor, .out .clk => true
  | _, _ => false

/-- The value of an item in a state; an input has none between its samples (R57, R58, R69). -/
def State.itemValue (s : State) : Item → Option Nat
  | .reg r => some (s.regValue r)
  | .latch l => some (s.latch l).toNat
  | .out l => (s.lineLevel l).map Bool.toNat
  | .inp _ => none
  | .now => none

/-- What an agent can see of a state, item by item. -/
def State.view (s : State) (a : Agent) (x : Item) : Option Nat :=
  if a.mayRead x then s.itemValue x else none

/-- What a consumer of the published registers sees: `currentTemperature`, `notConnected`, `actuatorRequested`. -/
structure Published where
  currentTemperature : Nat
  notConnected : Nat
  actuatorRequested : Nat
  deriving DecidableEq, Repr

/-- The published registers of a state (R31, R183). -/
def State.published (s : State) : Published :=
  ⟨s.currentTemperature.toNat, s.notConnected.toNat, s.actuatorRequested.toNat⟩

/-- One register of an atomic update as the consumer sees it. -/
def Published.put (p : Published) (w : Reg × Nat) : Published :=
  match w.1 with
  | .currentTemperature => { p with currentTemperature := w.2 }
  | .notConnected => { p with notConnected := w.2 }
  | .actuatorRequested => { p with actuatorRequested := w.2 }
  | _ => p

/-- What the consumer sees after an event: a whole atomic update or nothing of it (R60). -/
def Published.see (p : Published) : Event → Published
  | .S ws => ws.foldl Published.put p
  | _ => p

/-- What the consumer sees after a run of events, from what it saw before them (R60, D23). -/
def Published.seeAll (p : Published) (es : List Event) : Published := es.foldl Published.see p

end Sys2Proof.Machine
end

