-- ==== Sys2Proof/Safety.lean ====
section
/-! DEFINITION. What counts as a safe run, in the terms the statements use: the waveform on the lines, the agreement of
history and state, and the shape of the states that the fixed program reaches. -/

namespace Sys2Proof.Machine

/-- Where a waveform stands (R63, R104, R112). `n` counts the pulses completed in the frame. -/
inductive Wave where
  /-- Before `begin()`: which of its two line writes have been seen. -/
  | cold (csWritten clkWritten : Bool)
  /-- CS high, CLK low, no frame. -/
  | idle
  /-- In a frame, CLK low and settled. -/
  | low (n : Nat)
  /-- CLK has risen and has not settled. -/
  | rising (n : Nat)
  /-- CLK is high and settled. -/
  | high (n : Nat)
  /-- The bit of this pulse has been sampled. -/
  | sampled (n : Nat)
  /-- CLK has fallen and has not settled. -/
  | falling (n : Nat)
  deriving DecidableEq, Repr

/-- What an event does to the waveform, with `ts` the settle delay; nothing where the event breaks the frame. A register
write is on no line and may stand anywhere; in a frame every other event has its one place (R112). -/
def Wave.next (ts : Nat) (w : Wave) (e : Event) : Option Wave :=
  match e with
  | .S _ => some w
  | .W .cs true =>
    match w with
    | .cold _ clkWritten => some (if clkWritten then .idle else .cold true false)
    | .idle => some .idle
    | .low n => if n = Config.rawBits then some .idle else none
    | _ => none
  | .W .cs false =>
    match w with
    | .idle => some (.low 0)
    | _ => none
  | .W .clk true =>
    match w with
    | .low n => if n < Config.rawBits then some (.rising n) else none
    | _ => none
  | .W .clk false =>
    match w with
    | .cold csWritten _ => some (if csWritten then .idle else .cold false true)
    | .idle => some .idle
    | .sampled n => some (.falling n)
    | _ => none
  | .R .data _ =>
    match w with
    | .high n => some (.sampled n)
    | _ => none
  | .D t =>
    match w with
    | .cold a b => some (.cold a b)
    | .idle => some .idle
    | .rising n => if t = ts then some (.high n) else none
    | .falling n => if t = ts then some (.low (n + 1)) else none
    | _ => none
  | .R .req _ | .T _ | .W .act _ =>
    match w with
    | .cold a b => some (.cold a b)
    | .idle => some .idle
    | _ => none

/-- The waveform after a history, from where it stood before. -/
def Wave.run (ts : Nat) (w : Wave) (es : List Event) : Option Wave :=
  es.foldlM (Wave.next ts) w

/-- The waveform a history has made since power-on, where it breaks no frame. -/
def State.wave (s : State) : Option Wave := Wave.run s.cfg.tSettleNs (.cold false false) s.hist

/-- Where the waveform stands, told from the registers of a booted block (R22, R27). -/
def State.waveOfRegs (s : State) : Wave :=
  match s.plPhase.toNat with
  | 0 => .idle
  | 1 => .low s.bitcnt.toNat
  | 2 => .high s.bitcnt.toNat
  | 3 => .sampled s.bitcnt.toNat
  | _ => .low Config.rawBits

/-- A state of the fixed program: between two operations of a run from power-on on which no test bench selects
operations. -/
structure State.Running (s : State) : Prop where
  /-- The parameters keep their constraints (R236). -/
  config : s.cfg.wf = true
  /-- No operation is selected from outside (R68). -/
  noBench : s.bench = []
  /-- `phase` holds a code that a rule writes (R21). -/
  phaseLegal : s.phase.toNat ≤ 4
  /-- `pl_phase` holds a code that a rule writes (R22). -/
  plPhaseLegal : s.plPhase.toNat ≤ 4
  /-- A transaction is in progress only in phase SENSOR (R22). -/
  transactionInSensor : s.plPhase ≠ plIdle → s.phase = phaseSensor
  /-- The temperature is in its range (R28). -/
  temperatureRange : s.currentTemperature.toNat ≤ 500
  /-- The actuator is deasserted between operations (R34, R182). -/
  actuatorOff : s.act = false
  /-- Before CL.START nothing has been driven. -/
  beforeStart : s.phase = phaseStart → s.wave = some (.cold false false)
  /-- After CL.START the lines are configured (R232, R235). -/
  configured : s.phase ≠ phaseStart → s.plCfg = true ∧ s.csDir = .output ∧ s.clkDir = .output ∧ s.dataDir = .input
  /-- After CL.START the waveform is where the micro-sequencer says (R112). -/
  waveform : s.phase ≠ phaseStart → s.wave = some s.waveOfRegs
  /-- Fewer than sixteen pulses are complete while one is in progress (R27). -/
  pulseCount : s.plPhase = plHigh ∨ s.plPhase = plSample ∨ s.plPhase = plLow → s.bitcnt.toNat < Config.rawBits
  /-- The latches hold the levels of that point (R24, R25). -/
  levels : s.phase ≠ phaseStart →
    s.cs = decide (s.plPhase = plIdle) ∧ s.clk = decide (s.plPhase = plSample ∨ s.plPhase = plLow)

/-- The latches are the last levels written, on every line that has been written (R55, R62). -/
def State.LinesMatchHistory (s : State) : Prop :=
  ∀ l b, lastWrite l s.hist = some b → s.latch l = b

/-- The registers hold the last values written, for every register that has been written (R60, R62). -/
def State.RegistersMatchHistory (s : State) : Prop :=
  ∀ r v, lastValue r s.hist = some v → s.regValue r = v

/-- The column "written by" of 10_state.md section 1, with the routines and phases that run a micro-operation or a
routine counted beside it. -/
def writes : Instr → Reg → Bool
  | .clStart, .phase | .clStart, .plCfg | .clStart, .currentTemperature | .clStart, .actuatorRequested
  | .clStart, .notConnected | .clStart, .lastSensor | .clStart, .lastAct => true
  | .clInput, .phase | .clInput, .actuatorRequested => true
  | .clSensor, .phase | .clSensor, .plPhase | .clSensor, .shreg | .clSensor, .bitcnt
  | .clSensor, .currentTemperature | .clSensor, .notConnected | .clSensor, .lastSensor => true
  | .clAct, .phase | .clAct, .lastAct => true
  | .clIdle, .phase => true
  | .plBegin, .plCfg => true
  | .plReadraw, .plPhase | .plReadraw, .shreg | .plReadraw, .bitcnt => true
  | .plCsassert, .plPhase | .plCsassert, .shreg | .plCsassert, .bitcnt => true
  | .plClkhi, .plPhase => true
  | .plSample, .plPhase | .plSample, .shreg => true
  | .plClklo, .plPhase | .plClklo, .bitcnt => true
  | .plCsrelease, .plPhase => true
  | _, _ => false

/-- The operations that reach each output line (R51), the phases that call them counted beside them. -/
def drives : Instr → OutLine → Bool
  | .clStart, _ => true
  | .clSensor, .cs | .clSensor, .clk => true
  | .clAct, .act => true
  | .plBegin, .cs | .plBegin, .clk => true
  | .plReadraw, .cs | .plReadraw, .clk => true
  | .plCsassert, .cs => true
  | .plClkhi, .clk => true
  | .plClklo, .clk => true
  | .plCsrelease, .cs => true
  | .adPulse, .act => true
  | _, _ => false

/-- An event other than a register write: `W`, `R`, `T` or `D`. -/
def Event.notRegister : Event → Bool
  | .S _ => false
  | _ => true

/-- The events of a history other than register writes, as R112 and the vectors list them. -/
def lineEvents (h : List Event) : List Event := h.filter Event.notRegister

/-- The 82 events of a transaction that samples the bits `ds` (R112). -/
def frameEvents (ts : Nat) (ds : List Bool) : List Event :=
  [.W .cs false] ++ ds.flatMap (fun d => [.W .clk true, .D ts, .R .data d, .W .clk false, .D ts]) ++ [.W .cs true]

/-- `sum over i of d_i * 2^(15 - i)` (R110). -/
def frameValue (ds : List Bool) : Nat :=
  ((List.range Config.rawBits).map (fun i => (ds.getD i false).toNat * 2 ^ (Config.rawBits - 1 - i))).sum

/-- The physical temperature of a reading in degrees, `q * 0.25`; Fault has none (R130, R131). -/
def Reading.value : Reading → Option Rat
  | .fault => none
  | .temp q => some (q.toNat * (1 / 4))

/-- The launch premise of U8 and R247: the next clock sample comes less than `2^W` milliseconds after the true time
`last` at which a timer register was loaded. -/
def State.ClockPremise (s : State) (last : Nat) : Prop :=
  last ≤ s.env.popClock.ms ∧ s.env.popClock.ms - last < 2 ^ Config.msClockBits

end Sys2Proof.Machine
end

