-- ==== Sys2Proof/Certificates/Slice0/Obligations.lean ====
section
/-! DEFINITION. The statements for the provers. Each docstring names the rules of spec/ it formalises, and says where a
clause rests on a choice of the model (a log entry) and not on a rule. -/

open Sys2Proof Sys2Proof.Machine

/-! ## The access primitive -/

/-- R55: a line write sets that line's latch alone and appends its event, also where the latch holds the level. -/
def Obligations.LineWriteSetsTheLatch : Prop :=
  (∀ (s : State) (l : OutLine) (b : Bool), (s.lineWrite l b).latch l = b ∧
    (s.lineWrite l b).hist = s.hist ++ [.W l b] ∧
    (∀ l', l' ≠ l → (s.lineWrite l b).latch l' = s.latch l') ∧
    (∀ r, (s.lineWrite l b).regValue r = s.regValue r)) ∧
  (∀ (s : State) (l : OutLine), s.lineWrite l (s.latch l) = { s with hist := s.hist ++ [.W l (s.latch l)] })

/-! ## Codes and words -/

/-- R84, R80: code words written out bit by bit from the encodings of the table. -/
def Obligations.WordsOfTheTableDecode : Prop :=
  decode ⟨4, 0b0000⟩ = .ok .clStart ∧ decode ⟨4, 0b0001⟩ = .ok .clInput ∧ decode ⟨4, 0b0010⟩ = .ok .clSensor ∧
  decode ⟨4, 0b0011⟩ = .ok .clAct ∧ decode ⟨4, 0b0100⟩ = .ok .clIdle ∧ decode ⟨4, 0b0101⟩ = .ok .plBegin ∧
  decode ⟨4, 0b0110⟩ = .ok .plReadraw ∧ decode ⟨4, 0b0111⟩ = .ok .tdDecode ∧ decode ⟨4, 0b1010⟩ = .ok .plSample ∧
  decode ⟨4, 0b1100⟩ = .ok .plCsrelease ∧ decode ⟨4, 0b1110⟩ = .ok .tdClamp ∧ decode ⟨4, 0b1111⟩ = .ok .adPulse ∧
  decode ⟨16, 0b0000000110010000⟩ = .ok (.rawTemp 50 0) ∧ decode ⟨16, 0b0000000110010111⟩ = .ok (.rawFault 50 3) ∧
  decode ⟨16, 0b1111111111111011⟩ = .ok (.rawTemp 8191 3) ∧ decode ⟨16, 0b0000000000000100⟩ = .ok (.rawFault 0 0)

/-- R80, R82, R84: decoding undoes encoding, and only the encoding of an operation decodes to it. -/
def Obligations.DecodeUndoesEncode : Prop :=
  (∀ i : Instr, decode (encode i) = .ok i) ∧ (∀ (c : CodeWord) (i : Instr), decode c = .ok i → encode i = c)

/-- R82, R90, R91: exactly the words of four and of sixteen bits decode, each by exactly one row of the table. -/
def Obligations.EveryCodeNamesOneOperation : Prop :=
  (∀ c : CodeWord, (∃ i, decode c = .ok i) ↔ c.wf = true) ∧
  (∀ c : CodeWord, c.wf = true → (opcodeTable.filter (fun r => r.holds c)).length = 1) ∧
  (∀ c : CodeWord, 2 ^ c.nbits ≤ c.bits → decode c = .error .tooWide) ∧
  (∀ c : CodeWord, c.bits < 2 ^ c.nbits → c.nbits ≠ 4 → c.nbits ≠ 16 → decode c = .error .noSuchFormat)

/-! ## One step -/

/-- A test bench's code word is the operation the step runs (log 7), whatever the sequencer holds. -/
def Obligations.StepRunsTheSelectedCode : Prop :=
  ∀ (s : State) (c : CodeWord) (rest : List CodeWord) (i : Instr),
    s.cfg.wf = true → s.phase.toNat ≤ 4 → s.plPhase.toNat ≤ 4 → s.bench = c :: rest → decode c = .ok i →
    step s = exec i { s with bench := rest }

/-- R21, R22, R85: without a test bench the step runs the operation whose code `pl_phase`, else `phase`, holds; at the
end of a transaction in phase SENSOR it returns into CL.SENSOR (log 9). -/
def Obligations.StepRunsTheSequencersChoice : Prop :=
  ∀ s : State, s.cfg.wf = true → s.bench = [] → s.phase.toNat ≤ 4 →
    (s.plPhase = 0 →
      (s.phase = 0 → step s = exec .clStart s) ∧ (s.phase = 1 → step s = exec .clInput s) ∧
      (s.phase = 2 → step s = exec .clSensor s) ∧ (s.phase = 3 → step s = exec .clAct s) ∧
      (s.phase = 4 → step s = exec .clIdle s)) ∧
    (s.plPhase = 1 → step s = exec .plClkhi s) ∧
    (s.plPhase = 2 → step s = exec .plSample s) ∧
    (s.plPhase = 3 → step s = exec .plClklo s) ∧
    (s.plPhase = 4 → s.phase ≠ 2 → step s = exec .plCsrelease s) ∧
    (s.plPhase = 4 → s.phase = 2 → ∃ u, exec .plCsrelease s = .next u ∧ step s = .next u.finishPoll)

/-- R90, R236: a sequencer value or a configuration that the spec gives no meaning is refused by name. -/
def Obligations.MeaninglessStatesAreRefused : Prop :=
  ∀ s : State,
    (s.cfg.wf = false → step s = .refused .illegalConfig) ∧
    (s.cfg.wf = true → 4 < s.phase.toNat → step s = .refused .illegalPhase) ∧
    (s.cfg.wf = true → s.phase.toNat ≤ 4 → 4 < s.plPhase.toNat → step s = .refused .illegalPlPhase)

/-- R236 without `T_CONV <= SENSOR_PERIOD_MS`, which U12 takes out of the refusal (log 19): the configurations that are
not refused, in the spec's units. -/
def Obligations.LegalConfigurations : Prop :=
  ∀ p : Params, p.wf = true ↔
    (1000 ≤ p.tSettleNs ∧ 0 < p.tIdleNs ∧ p.tIdleNs < p.actPeriodMs * 10 ^ 6 ∧ 0 < p.tPulseNs ∧
      p.tPulseNs < p.actPeriodMs * 10 ^ 6 ∧ 0 < p.sensorPeriodMs ∧ p.sensorPeriodMs < 2 ^ 32 ∧
      0 < p.actPeriodMs ∧ p.actPeriodMs < 2 ^ 32)

/-- R37, R230 to R232: power-on leaves `phase`, `pl_phase` and `pl_cfg` at 0 and no line driven; the first operation is
CL.START, whatever the environment; a restart gives that state again with the configuration kept. -/
def Obligations.PowerOnStartsAtClStart : Prop :=
  State.reset.phase = 0 ∧ State.reset.plPhase = 0 ∧ State.reset.plCfg = false ∧
  (∀ l, State.reset.lineLevel l = none) ∧
  State.reset.cfg.sensorPeriodMs = 1000 ∧ State.reset.cfg.actPeriodMs = 50 ∧
  (∀ e : Env, step { State.reset with env := e } = exec .clStart { State.reset with env := e }) ∧
  (∀ s : State, s.restart.cfg = s.cfg ∧ s.restart.phase = 0 ∧ s.restart.plPhase = 0 ∧ s.restart.plCfg = false ∧
    ∀ l, s.restart.lineLevel l = none)

/-! ## TemperatureDecoder, rounding and clamping -/

/-- R133: the two properties the source gives of `decode`, with the exact value `(v >> 3) * 0.25`. -/
def Obligations.DecodeByFaultBitAndShift : Prop :=
  ∀ v : RawSample,
    (v.toNat / 2 ^ 2 % 2 = 1 → decodeSample v = .fault) ∧
    (v.toNat / 2 ^ 2 % 2 = 0 → (decodeSample v).value = some (((v.toNat >>> 3 : Nat) : Rat) * (25 / 100)))

/-- R89: no RAW16 word is illegal; `sr` never matters, and with `oc` set `q` does not matter either. -/
def Obligations.ReservedBitsNeverMatter : Prop :=
  (∀ v : RawSample, ∃ i, decode ⟨16, v.toNat⟩ = .ok i) ∧
  (∀ (q : Quarters) (oc : Bool) (sr sr' : BitVec 2),
    decodeSample (BitVec.ofNat 16 (rawWord q oc sr)) = decodeSample (BitVec.ofNat 16 (rawWord q oc sr'))) ∧
  (∀ (q q' : Quarters) (sr sr' : BitVec 2),
    decodeSample (BitVec.ofNat 16 (rawWord q true sr)) = decodeSample (BitVec.ofNat 16 (rawWord q' true sr')))

/-- R131: TD.DECODE completes in every state, touching no register, line or flag; that it takes the word of `shreg` and
leaves its result in `reading` is the model's (log 12). -/
def Obligations.DecodeCompletes : Prop :=
  ∀ s : State, exec .tdDecode s = .next { s with
    reading := if s.shreg.toNat / 4 % 2 = 1 then .fault else .temp (BitVec.ofNat 13 (s.shreg.toNat / 8)) }

/-- R80, R82, R131: a data word as an operation gives the reading that TD.DECODE gives of that word in `shreg`
(log 12, log 14). -/
def Obligations.DataWordsDecodeAsThemselves : Prop :=
  ∀ (s : State) (q : Quarters) (sr : BitVec 2),
    exec (.rawFault q sr) s = .next { s with reading := .fault } ∧
    exec (.rawTemp q sr) s = .next { s with reading := .temp q } ∧
    (∀ (i : Instr) (t u : State), i = .rawFault q sr ∨ i = .rawTemp q sr → exec i s = .next t →
      exec .tdDecode { s with shreg := BitVec.ofNat 16 (encode i).bits } = .next u → u.reading = t.reading)

/-- R134, R139: rounding is to the nearest integer with ties up on every count, fits 12 bits, is exact in a 14-bit
adder, and is odd on all integers. The last clause is decision D6. -/
def Obligations.RoundIsNearestTiesUp : Prop :=
  (∀ q : Quarters, 4 * roundQuarters q.toNat ≤ q.toNat + 2 ∧ (q.toNat : Int) + 2 < 4 * roundQuarters q.toNat + 4 ∧
    0 ≤ roundQuarters q.toNat ∧ roundQuarters q.toNat ≤ 2048 ∧
    (((q.setWidth 14 + 2) >>> 2 : BitVec 14).toNat : Int) = roundQuarters q.toNat) ∧
  (∀ q : Int, roundQuarters (-q) = -roundQuarters q)

/-- R134: TD.ROUND completes in every state; where the result lies, and that it is free when the reading is Fault, is
the model's (log 12, log 13). -/
def Obligations.RoundCompletes : Prop :=
  (∀ (s : State) (q : Quarters), s.reading = .temp q →
    exec .tdRound s = .next { s with rounded := ((q.toNat + 2) / 4 : Nat) }) ∧
  (∀ s : State, s.reading = .fault → ∃ n : Int,
    exec .tdRound s = .next { s with rounded := n, env := { s.env with draws := s.env.draws + 1 } })

/-- R135: TD.CLAMP completes in every state, for every integer; where operand and result lie is the model's (log 12). -/
def Obligations.ClampCompletes : Prop :=
  ∀ s : State, ∃ t, exec .tdClamp s = .next t ∧ t = { s with clamped := t.clamped } ∧
    (t.clamped.toNat : Int) = min (max s.rounded 0) 500

/-- R136, R137: the published value is `min((q + 2) >> 2, 500)`; it is 500 exactly from 1998 on and 0 exactly up to 1,
never falls as `q` grows, takes every value, and does not depend on the order of the two steps. -/
def Obligations.PublishedValueRange : Prop :=
  (∀ q : Quarters,
    (clampDegrees (roundQuarters q.toNat) = min ((q.toNat + 2) / 4) 500) ∧
    (clampDegrees (roundQuarters q.toNat) = 500 ↔ 1998 ≤ q.toNat) ∧
    (clampDegrees (roundQuarters q.toNat) = 0 ↔ q.toNat ≤ 1)) ∧
  (∀ q q' : Quarters, q.toNat ≤ q'.toNat →
    clampDegrees (roundQuarters q.toNat) ≤ clampDegrees (roundQuarters q'.toNat)) ∧
  (∀ n : Nat, n ≤ 500 → clampDegrees (roundQuarters (4 * n)) = n) ∧
  (∀ q : Int, clampDegrees (roundQuarters q) = roundQuarters (min (max q 0) 2000))

/-! ## ProtocolLink -/

/-- R101: PL.BEGIN sets the directions and the idle levels and touches nothing else of the block, in a second execution
too; the order of its two line writes is either (U7, log 6). -/
def Obligations.BeginConfiguresTheLines : Prop :=
  encode .plBegin = ⟨4, 0b0101⟩ ∧
  ∀ s : State, ∃ t ws, exec .plBegin s = .next t ∧
    (ws = [Event.W .cs true, .W .clk false] ∨ ws = [Event.W .clk false, .W .cs true]) ∧
    t = { s with csDir := .output, clkDir := .output, dataDir := .input, cs := true, clk := false, plCfg := true
                 hist := s.hist ++ ws ++ [.S [(.plCfg, 1)]], env := t.env } ∧
    t.env.ms = s.env.ms ∧ t.env.data = s.env.data ∧ t.env.req = s.env.req ∧ t.env.clock = s.env.clock

/-- R105, with decision D4: PL.CSASSERT in every state; its effect away from the start of a transaction is log 21. -/
def Obligations.CsAssertOpensTheFrame : Prop :=
  ∀ s : State, exec .plCsassert s = .next { s with
    cs := false, shreg := 0x0000, bitcnt := 0, plPhase := 1
    hist := s.hist ++ [.W .cs false, .S [(.shreg, 0)], .S [(.bitcnt, 0)], .S [(.plPhase, 1)]] }

/-- R106: PL.CLKHI, its code, when the sequencer runs it (then with a settle delay of at least 1 µs), and its effect
in every state, which away from PL_HIGH is the model's choice (log 21). -/
def Obligations.ClkHiRaisesTheClock : Prop :=
  encode .plClkhi = ⟨4, 0b1001⟩ ∧
  (∀ s : State, s.cfg.wf = true → s.bench = [] → s.phase.toNat ≤ 4 → s.plPhase = 1 →
    step s = exec .plClkhi s ∧ 1000 ≤ s.cfg.tSettleNs) ∧
  ∀ s : State, exec .plClkhi s = .next { s with
    clk := true, plPhase := 2
    hist := s.hist ++ [.W .clk true, .D s.cfg.tSettleNs, .S [(.plPhase, 2)]] }

/-- R107: PL.SAMPLE puts the sampled bit into bit `15 - bitcnt` of `shreg` and changes no other bit. The sampled bit is
the next of the script, or any bit at all (log 3); with `bitcnt` above 15 the value of `shreg` is free (log 10).
The effect away from PL_SAMPLE is log 21. -/
def Obligations.SampleStoresTheBit : Prop :=
  ∀ s : State, ∃ (t : State) (d : Bool), exec .plSample s = .next t ∧
    t = { s with shreg := t.shreg, plPhase := 3, env := t.env
                 hist := s.hist ++ [.R .data d, .S [(.shreg, t.shreg.toNat)], .S [(.plPhase, 3)]] } ∧
    (s.bitcnt.toNat ≤ 15 → ∀ j < 16,
      t.shreg.getLsbD j = if j = 15 - s.bitcnt.toNat then d else s.shreg.getLsbD j) ∧
    (s.bitcnt.toNat ≤ 15 → ∀ b bs, s.env.data = b :: bs → d = b ∧ t.env = { s.env with data := bs }) ∧
    t.env.ms = s.env.ms ∧ t.env.req = s.env.req ∧ t.env.clock = s.env.clock

/-- R108: PL.CLKLO, its code, when the sequencer runs it, and its effect for every count up to 15, which away from PL_LOW
is the model's choice (log 21). -/
def Obligations.ClkLoCountsThePulse : Prop :=
  encode .plClklo = ⟨4, 0b1011⟩ ∧
  (∀ s : State, s.cfg.wf = true → s.bench = [] → s.phase.toNat ≤ 4 → s.plPhase = 3 → step s = exec .plClklo s) ∧
  ∀ s : State, s.bitcnt.toNat ≤ 15 → ∃ t, exec .plClklo s = .next t ∧ t.bitcnt.toNat = s.bitcnt.toNat + 1 ∧
    (s.bitcnt.toNat + 1 = 16 → t.plPhase = 4) ∧ (s.bitcnt.toNat + 1 ≠ 16 → t.plPhase = 1) ∧
    t = { s with clk := false, bitcnt := t.bitcnt, plPhase := t.plPhase
                 hist := s.hist ++ [.W .clk false, .D s.cfg.tSettleNs, .S [(.bitcnt, s.bitcnt.toNat + 1)],
                   .S [(.plPhase, t.plPhase.toNat)]] }

/-- PL.CLKLO with a count that no frame has: it completes, counts on while five bits hold the sum, and leaves a free
count at 31; `pl_phase` follows the count it leaves (log 11, log 21). -/
def Obligations.ClkLoOutsideAFrame : Prop :=
  ∀ s : State, 16 ≤ s.bitcnt.toNat → ∃ t, exec .plClklo s = .next t ∧
    (s.bitcnt.toNat ≤ 30 → t.bitcnt.toNat = s.bitcnt.toNat + 1) ∧
    t.plPhase = (if t.bitcnt.toNat = 16 then 4 else 1) ∧
    t = { s with clk := false, bitcnt := t.bitcnt, plPhase := t.plPhase, env := t.env
                 hist := s.hist ++ [.W .clk false, .D s.cfg.tSettleNs, .S [(.bitcnt, t.bitcnt.toNat)],
                   .S [(.plPhase, t.plPhase.toNat)]] } ∧
    (s.bitcnt.toNat ≤ 30 → t.env = s.env)

/-- R109: PL.CSRELEASE, its code, when the sequencer runs it, and its effect in every state; `shreg`, the value it
returns, stays. The effect away from PL_RELEASE is log 21. -/
def Obligations.CsReleaseEndsTheFrame : Prop :=
  encode .plCsrelease = ⟨4, 0b1100⟩ ∧
  (∀ s : State, s.cfg.wf = true → s.bench = [] → s.phase.toNat ≤ 4 → s.plPhase = 4 →
    s.fetch = .run .plCsrelease s (decide (s.phase = 2))) ∧
  ∀ s : State, exec .plCsrelease s = .next { s with
    cs := true, plPhase := 0
    hist := s.hist ++ [.W .cs true, .S [(.plPhase, 0)]] }

/-- R102, R235: a transaction before `begin()` is refused, and so is CL.SENSOR on expiry. -/
def Obligations.TransactionNeedsBegin : Prop :=
  ∀ s : State, s.plCfg = false →
    exec .plReadraw s = .refused .linesNotConfigured ∧
    (s.cfg.sensorPeriodMs ≤ (s.clockNow - s.lastSensor).toNat → exec .clSensor s = .refused .linesNotConfigured)

/-- R110 to R112: a transaction completes on configured lines; its line events are the 82 of R112 for some sixteen bits,
its result is the number those bits write, most significant first, and it changes nothing else. -/
def Obligations.TransactionReturnsTheSampledBits : Prop :=
  ∀ s : State, s.plCfg = true → ∃ (t : State) (ds : List Bool) (new : List Event),
    exec .plReadraw s = .next t ∧ ds.length = 16 ∧ t.hist = s.hist ++ new ∧
    lineEvents new = frameEvents s.cfg.tSettleNs ds ∧ (lineEvents new).length = 82 ∧
    t.shreg.toNat = frameValue ds ∧
    t = { s with cs := true, clk := false, plPhase := 0, bitcnt := 16, shreg := t.shreg, hist := t.hist, env := t.env } ∧
    t.env.ms = s.env.ms ∧ t.env.req = s.env.req ∧ t.env.clock = s.env.clock

/-- R57, R61, R110: a scripted sensor that sends a word most significant bit first has that word returned, so every
word is returned for some samples. -/
def Obligations.ScriptedWordIsReturned : Prop :=
  ∀ (s : State) (w : RawSample) (rest : List Bool), s.plCfg = true → s.env.data = wordBits w ++ rest →
    ∃ t, exec .plReadraw s = .next t ∧ t.shreg = w ∧ t.env = { s.env with data := rest }

/-- R103: no operation of the family has any outcome but normal completion, except a transaction on unconfigured lines,
which has no meaning; none touches the flag or the published temperature. -/
def Obligations.ProtocolLinkNeverFails : Prop :=
  ∀ (s : State) (i : Instr),
    i ∈ [Instr.plBegin, .plReadraw, .plCsassert, .plClkhi, .plSample, .plClklo, .plCsrelease] →
    ((i = .plReadraw → s.plCfg = true) ↔ ∃ t, exec i s = .next t) ∧
    (∀ t, exec i s = .next t → t.notConnected = s.notConnected ∧ t.currentTemperature = s.currentTemperature)

/-- R22, R111: running a transaction by the micro-sequencer, from the instant CL.SENSOR has reloaded its timer and
asserted chip-select, ends after 49 steps in the very state that CL.SENSOR taken as one step ends in. -/
def Obligations.MicroStepsEqualTheAtomicPoll : Prop :=
  ∀ s : State, s.cfg.wf = true → s.bench = [] → s.phase = 2 → s.plCfg = true →
    s.cfg.sensorPeriodMs ≤ (s.clockNow - s.lastSensor).toNat →
    Host.Core.run Sys2Proof.core 49 ((s.readClock.writeLastSensor s.clockNow).csAssert) = exec .clSensor s

/-! ## ControlLoop and the actuator -/

/-- R151, R232: CL.START in every state; the clock sample `t0` is the environment's. -/
def Obligations.StartEstablishesTheState : Prop :=
  ∀ s : State, ∃ (t : State) (t0 : Ms) (new : List Event), exec .clStart s = .next t ∧
    t = { s with currentTemperature := 0, actuatorRequested := false, notConnected := false, act := false
                 cs := true, clk := false, plCfg := true, csDir := .output, clkDir := .output, dataDir := .input
                 lastSensor := t0, lastAct := t0, phase := 1, hist := t.hist, env := t.env } ∧
    t.hist = s.hist ++ new ∧
    (lineEvents new = [.W .act false, .W .cs true, .W .clk false, .T t0] ∨
      lineEvents new = [.W .act false, .W .clk false, .W .cs true, .T t0]) ∧
    t0 = BitVec.ofNat 32 t.env.ms ∧ s.env.ms ≤ t.env.ms ∧ t.env.data = s.env.data ∧ t.env.req = s.env.req

/-- R152: CL.INPUT latches the sampled request, the next of the script or any bit at all (log 4). -/
def Obligations.InputLatchesTheRequest : Prop :=
  ∀ s : State, ∃ (t : State) (r : Bool), exec .clInput s = .next t ∧
    t = { s with actuatorRequested := r, phase := 2, env := t.env
                 hist := s.hist ++ [.R .req r, .S [(.actuatorRequested, r.toNat)], .S [(.phase, 2)]] } ∧
    (∀ b bs, s.env.req = b :: bs → r = b ∧ t.env = { s.env with req := bs }) ∧
    t.env.ms = s.env.ms ∧ t.env.data = s.env.data ∧ t.env.clock = s.env.clock

/-- R153: CL.SENSOR on configured lines: without expiry only the clock is sampled; on expiry the timer is reloaded, one
transaction is made, and its word decides between the flag and the temperature. -/
def Obligations.SensorPhasePollsOnExpiry : Prop :=
  encode .clSensor = ⟨4, 0b0010⟩ ∧
  (∀ s : State, (s.clockNow - s.lastSensor).toNat < s.cfg.sensorPeriodMs →
    exec .clSensor s = .next { s with
      phase := 3, env := s.env.popClock, hist := s.hist ++ [.T s.clockNow, .S [(.phase, 3)]] }) ∧
  (∀ s : State, s.plCfg = true → s.cfg.sensorPeriodMs ≤ (s.clockNow - s.lastSensor).toNat →
    ∃ (t : State) (ds : List Bool) (new : List Event), exec .clSensor s = .next t ∧
      t.hist = s.hist ++ new ∧ ds.length = 16 ∧
      lineEvents new = .T s.clockNow :: frameEvents s.cfg.tSettleNs ds ∧ t.shreg.toNat = frameValue ds ∧
      (t.shreg.getLsbD 2 = true → t.notConnected = true ∧ t.currentTemperature = s.currentTemperature) ∧
      (t.shreg.getLsbD 2 = false → t.notConnected = false ∧
        t.currentTemperature.toNat = min ((t.shreg.toNat / 8 + 2) / 4) 500 ∧
        .S [(.currentTemperature, t.currentTemperature.toNat), (.notConnected, 0)] ∈ new) ∧
      t = { s with lastSensor := s.clockNow, cs := true, clk := false, plPhase := 0, bitcnt := 16, phase := 3
                   shreg := t.shreg, currentTemperature := t.currentTemperature, notConnected := t.notConnected
                   reading := t.reading, rounded := t.rounded, clamped := t.clamped, hist := t.hist, env := t.env } ∧
      t.env.ms = s.env.popClock.ms ∧ t.env.req = s.env.req)

/-- R154: among the phases only CL.SENSOR starts a transaction, only on expiry and once, so consecutive ones start at least
a period apart on the clock. -/
def Obligations.TransactionsArePeriodsApart : Prop :=
  (∀ s t : State, exec .clSensor s = .next t → ∃ new, t.hist = s.hist ++ new ∧
    new.count (.W .cs false) = (if s.cfg.sensorPeriodMs ≤ (s.clockNow - s.lastSensor).toNat then 1 else 0) ∧
    (new.count (.W .cs false) = 1 → t.lastSensor = s.clockNow ∧
      s.cfg.sensorPeriodMs ≤ (t.lastSensor - s.lastSensor).toNat) ∧
    (new.count (.W .cs false) = 0 → t.lastSensor = s.lastSensor)) ∧
  (∀ (s t : State) (i : Instr), i ∈ [Instr.clStart, .clInput, .clAct, .clIdle] → exec i s = .next t →
    ∃ new, t.hist = s.hist ++ new ∧ new.count (.W .cs false) = 0)

/-- R156: CL.ACT in every state, by expiry and latched request. -/
def Obligations.ActPhasePulsesOnRequest : Prop :=
  encode .clAct = ⟨4, 0b0011⟩ ∧
  (∀ s : State, (s.clockNow - s.lastAct).toNat < s.cfg.actPeriodMs →
    exec .clAct s = .next { s with
      phase := 4, env := s.env.popClock, hist := s.hist ++ [.T s.clockNow, .S [(.phase, 4)]] }) ∧
  (∀ s : State, s.cfg.actPeriodMs ≤ (s.clockNow - s.lastAct).toNat → s.actuatorRequested = false →
    exec .clAct s = .next { s with
      phase := 4, lastAct := s.clockNow, env := s.env.popClock
      hist := s.hist ++ [.T s.clockNow, .S [(.lastAct, s.clockNow.toNat)], .S [(.phase, 4)]] }) ∧
  (∀ s : State, s.cfg.actPeriodMs ≤ (s.clockNow - s.lastAct).toNat → s.actuatorRequested = true →
    exec .clAct s = .next { s with
      phase := 4, lastAct := s.clockNow, act := false, env := s.env.popClock
      hist := s.hist ++ [.T s.clockNow, .S [(.lastAct, s.clockNow.toNat)], .W .act true, .D s.cfg.tPulseNs,
        .W .act false, .S [(.phase, 4)]] })

/-- R158: one pulse exactly on an expiry of CL.ACT with the request true, none otherwise, whatever the flag and the
temperature; no other phase pulses, and the output is deasserted after it. -/
def Obligations.OnePulsePerRequestedExpiry : Prop :=
  (∀ s : State, ∃ t new, exec .clAct s = .next t ∧ t.hist = s.hist ++ new ∧
    new.count (.W .act true) =
      (if expired s.clockNow s.lastAct s.cfg.actPeriodMs = true ∧ s.actuatorRequested = true then 1 else 0) ∧
    (new.count (.W .act true) = 1 → t.act = false)) ∧
  (∀ (s t : State) (i : Instr), i ∈ [Instr.clStart, .clInput, .clSensor, .clIdle] → exec i s = .next t →
    ∃ new, t.hist = s.hist ++ new ∧ new.count (.W .act true) = 0)

/-- R158, and 91 N23: nothing the sensor has sent reaches the actuator phase: not the published registers, not the
accumulator, not the decoder's results (log 12), not the history. -/
def Obligations.ActuatorIgnoresTheTemperature : Prop :=
  ∀ (s t : State) (c : Degrees) (n : Bool) (w : RawSample) (r : Reading) (m : Int) (k : Degrees) (h : List Event),
    exec .clAct s = .next t → ∃ new, t.hist = s.hist ++ new ∧
      exec .clAct { s with
        currentTemperature := c, notConnected := n, shreg := w, reading := r, rounded := m, clamped := k, hist := h } =
      .next { t with
        currentTemperature := c, notConnected := n, shreg := w, reading := r, rounded := m, clamped := k
        hist := h ++ new }

/-- R159: neither timer's phase reads or writes the other timer. -/
def Obligations.TimersAreIndependent : Prop :=
  (∀ (s t : State) (x : Ms), exec .clSensor s = .next t →
    t.lastAct = s.lastAct ∧ exec .clSensor { s with lastAct := x } = .next { t with lastAct := x }) ∧
  (∀ (s t : State) (x : Ms), exec .clAct s = .next t →
    t.lastSensor = s.lastSensor ∧ exec .clAct { s with lastSensor := x } = .next { t with lastSensor := x })

/-- R154, R247: across a wrap of the clock the test still compares the true elapsed time, provided that is below `2^W`
milliseconds (the premise U8). -/
def Obligations.TimerTestIsTrueElapsedTime : Prop :=
  ∀ (s : State) (last period : Nat), s.ClockPremise last →
    (expired s.clockNow (BitVec.ofNat 32 last) period = true ↔ period ≤ s.env.popClock.ms - last)

/-- R160, with decision D32: CL.IDLE in every state. -/
def Obligations.IdleOnlyDelays : Prop :=
  ∀ s : State, exec .clIdle s = .next { s with
    phase := 1, hist := s.hist ++ [.D s.cfg.tIdleNs, .S [(.phase, 1)]] }

/-- R181: AD.PULSE asserts, holds and deasserts in every state, reading nothing but the configuration. -/
def Obligations.PulseIsBounded : Prop :=
  ∀ s : State, exec .adPulse s = .next { s with
    act := false, hist := s.hist ++ [.W .act true, .D s.cfg.tPulseNs, .W .act false] }

/-- R32: a consumer that follows the events of any operation sees the registers it leaves, and between any two events
of CL.SENSOR it sees both published registers old or both new. -/
def Obligations.NoPartialPublication : Prop :=
  (∀ (i : Instr) (s t : State), exec i s = .next t → ∃ new, t.hist = s.hist ++ new ∧
    s.published.seeAll new = t.published) ∧
  (∀ s t : State, exec .clSensor s = .next t → ∃ new, t.hist = s.hist ++ new ∧
    ∀ p, p <+: new → s.published.seeAll p = s.published ∨ s.published.seeAll p = t.published)

/-- R184: what the display shows, and that a fault poll hides the held temperature without losing it. -/
def Obligations.DisplayShowsTheFlagFirst : Prop :=
  (∀ s : State, s.notConnected = true → s.display = .notConnectedText) ∧
  (∀ s : State, s.notConnected = false → s.display = .degrees s.currentTemperature.toNat) ∧
  (∀ s : State, s.shreg.getLsbD 2 = true →
    s.finishPoll.display = .notConnectedText ∧ s.finishPoll.currentTemperature = s.currentTemperature)

/-! ## The whole machine -/

/-- 10_state.md section 1, the column "written by", and R51: an operation changes no register and no line latch but
those it is named for. -/
def Obligations.OnlyNamedWritersChangeARegister : Prop :=
  ∀ (i : Instr) (s t : State), exec i s = .next t →
    (∀ r, writes i r = false → t.regValue r = s.regValue r) ∧
    (∀ l, drives i l = false → t.latch l = s.latch l) ∧
    (i ≠ .clStart → i ≠ .plBegin → t.csDir = s.csDir ∧ t.clkDir = s.clkDir ∧ t.dataDir = s.dataDir)

/-- R62: an operation appends to the history and never reads it. -/
def Obligations.HistoryGrowsAndIsNeverRead : Prop :=
  ∀ (i : Instr) (s t : State) (h : List Event), exec i s = .next t →
    ∃ new, t.hist = s.hist ++ new ∧ exec i { s with hist := h } = .next { t with hist := h ++ new }

/-- R68, R186: no step changes the configuration. The clauses on the test bench are the model's (log 7): a step takes
its first word, and no operation selects a later one. -/
def Obligations.ConfigurationIsFixed : Prop :=
  (∀ s t : State, step s = .next t → t.cfg = s.cfg ∧ t.bench = s.bench.tail) ∧
  (∀ (i : Instr) (s t : State), exec i s = .next t → t.cfg = s.cfg ∧ t.bench = s.bench)

/-- R58: the clock never goes back, and a clock sample is the true count modulo `2^W`. -/
def Obligations.ClockIsMonotone : Prop :=
  ∀ (i : Instr) (s t : State), exec i s = .next t → s.env.ms ≤ t.env.ms ∧
    ∃ new, t.hist = s.hist ++ new ∧
      (∀ now, .T now ∈ new → now.toNat = t.env.ms % 2 ^ 32) ∧
      ((∀ now, .T now ∉ new) → t.env.ms = s.env.ms)

/-- R28, R135: every operation keeps the published temperature in 0 to 500. -/
def Obligations.TemperatureStaysInRange : Prop :=
  ∀ s t : State, s.currentTemperature.toNat ≤ 500 → step s = .next t → t.currentTemperature.toNat ≤ 500

/-- R34, R182: every step keeps the actuator deasserted at its end. -/
def Obligations.ActuatorOffBetweenOperations : Prop :=
  ∀ s t : State, s.act = false → step s = .next t → t.act = false

/-- R31, R212: what DisplayPublisher sees is the three published registers and nothing else, and no operation of
ProtocolLink changes it. -/
def Obligations.DisplaySeesOnlyThePublished : Prop :=
  (∀ s t : State, (∀ x, s.view .displayPublisher x = t.view .displayPublisher x) ↔ s.published = t.published) ∧
  (∀ (s t : State) (i : Instr),
    i ∈ [Instr.plBegin, .plReadraw, .plCsassert, .plClkhi, .plSample, .plClklo, .plCsrelease] →
    exec i s = .next t → ∀ x, t.view .displayPublisher x = s.view .displayPublisher x)

/-- R55, R62, R66: every step keeps the line latches equal to the last levels written in the history. -/
def Obligations.StepKeepsLinesMatchingHistory : Prop :=
  ∀ s t : State, s.LinesMatchHistory → step s = .next t → t.LinesMatchHistory

/-- R60, R62: every step keeps the registers equal to the last values written in the history. -/
def Obligations.StepKeepsRegistersMatchingHistory : Prop :=
  ∀ s t : State, s.RegistersMatchHistory → step s = .next t → t.RegistersMatchHistory

/-- At reset nothing has been written, so history and state agree, and the state is one of the fixed program; that the
actuator latch and the temperature hold 0 there is the model's choice (log 1). -/
def Obligations.ResetMeetsTheInvariants : Prop :=
  State.reset.Running ∧ State.reset.LinesMatchHistory ∧ State.reset.RegistersMatchHistory

/-- R21, R22, R28, R63, R112, R182, R235: every step of the fixed program keeps its invariant, the waveform of R112 and
the legal sequencer values among it. -/
def Obligations.StepKeepsTheProgramRunning : Prop :=
  ∀ s t : State, s.Running → step s = .next t → t.Running

/-- R166, R202: the fixed program never stops: from every state of it there is a next step. -/
def Obligations.ProgramNeverStops : Prop :=
  ∀ s : State, s.Running → ∃ t, step s = .next t

/-- R21, R150: the fixed succession of the phases; a transaction in progress keeps its phase until it returns. That the
step of PL.CSRELEASE returns into CL.SENSOR, and so moves `phase` to ACT, is deduced (log 9). -/
def Obligations.PhasesSucceedInOrder : Prop :=
  ∀ s t : State, s.Running → step s = .next t →
    (s.phase = 0 → t.phase = 1) ∧ (s.phase = 1 → t.phase = 2) ∧
    (s.phase = 2 → s.plPhase = 0 ∨ s.plPhase = 4 → t.phase = 3) ∧
    (s.phase = 2 → s.plPhase = 1 ∨ s.plPhase = 2 ∨ s.plPhase = 3 → t.phase = 2) ∧
    (s.phase = 3 → t.phase = 4) ∧ (s.phase = 4 → t.phase = 1)
end

