-- ==== Sys2Proof/Laws/State.lean ====
section
/-! SUPPORT. One lemma per field per plain update of the state, so that no later proof unfolds a record update. -/

namespace Sys2Proof.Machine

variable (s : State)

/-! `readData` -/
@[simp] theorem readData_cfg : s.readData.cfg = s.cfg := rfl
@[simp] theorem readData_phase : s.readData.phase = s.phase := rfl
@[simp] theorem readData_plPhase : s.readData.plPhase = s.plPhase := rfl
@[simp] theorem readData_plCfg : s.readData.plCfg = s.plCfg := rfl
@[simp] theorem readData_csDir : s.readData.csDir = s.csDir := rfl
@[simp] theorem readData_clkDir : s.readData.clkDir = s.clkDir := rfl
@[simp] theorem readData_dataDir : s.readData.dataDir = s.dataDir := rfl
@[simp] theorem readData_cs : s.readData.cs = s.cs := rfl
@[simp] theorem readData_clk : s.readData.clk = s.clk := rfl
@[simp] theorem readData_act : s.readData.act = s.act := rfl
@[simp] theorem readData_shreg : s.readData.shreg = s.shreg := rfl
@[simp] theorem readData_bitcnt : s.readData.bitcnt = s.bitcnt := rfl
@[simp] theorem readData_currentTemperature : s.readData.currentTemperature = s.currentTemperature := rfl
@[simp] theorem readData_actuatorRequested : s.readData.actuatorRequested = s.actuatorRequested := rfl
@[simp] theorem readData_notConnected : s.readData.notConnected = s.notConnected := rfl
@[simp] theorem readData_lastSensor : s.readData.lastSensor = s.lastSensor := rfl
@[simp] theorem readData_lastAct : s.readData.lastAct = s.lastAct := rfl
@[simp] theorem readData_reading : s.readData.reading = s.reading := rfl
@[simp] theorem readData_rounded : s.readData.rounded = s.rounded := rfl
@[simp] theorem readData_clamped : s.readData.clamped = s.clamped := rfl
@[simp] theorem readData_hist : s.readData.hist = s.hist ++ [.R .data s.dataBit] := rfl
@[simp] theorem readData_env : s.readData.env = s.env.popData := rfl
@[simp] theorem readData_bench : s.readData.bench = s.bench := rfl

/-! `readReq` -/
@[simp] theorem readReq_cfg : s.readReq.cfg = s.cfg := rfl
@[simp] theorem readReq_phase : s.readReq.phase = s.phase := rfl
@[simp] theorem readReq_plPhase : s.readReq.plPhase = s.plPhase := rfl
@[simp] theorem readReq_plCfg : s.readReq.plCfg = s.plCfg := rfl
@[simp] theorem readReq_csDir : s.readReq.csDir = s.csDir := rfl
@[simp] theorem readReq_clkDir : s.readReq.clkDir = s.clkDir := rfl
@[simp] theorem readReq_dataDir : s.readReq.dataDir = s.dataDir := rfl
@[simp] theorem readReq_cs : s.readReq.cs = s.cs := rfl
@[simp] theorem readReq_clk : s.readReq.clk = s.clk := rfl
@[simp] theorem readReq_act : s.readReq.act = s.act := rfl
@[simp] theorem readReq_shreg : s.readReq.shreg = s.shreg := rfl
@[simp] theorem readReq_bitcnt : s.readReq.bitcnt = s.bitcnt := rfl
@[simp] theorem readReq_currentTemperature : s.readReq.currentTemperature = s.currentTemperature := rfl
@[simp] theorem readReq_actuatorRequested : s.readReq.actuatorRequested = s.actuatorRequested := rfl
@[simp] theorem readReq_notConnected : s.readReq.notConnected = s.notConnected := rfl
@[simp] theorem readReq_lastSensor : s.readReq.lastSensor = s.lastSensor := rfl
@[simp] theorem readReq_lastAct : s.readReq.lastAct = s.lastAct := rfl
@[simp] theorem readReq_reading : s.readReq.reading = s.reading := rfl
@[simp] theorem readReq_rounded : s.readReq.rounded = s.rounded := rfl
@[simp] theorem readReq_clamped : s.readReq.clamped = s.clamped := rfl
@[simp] theorem readReq_hist : s.readReq.hist = s.hist ++ [.R .req s.reqBit] := rfl
@[simp] theorem readReq_env : s.readReq.env = s.env.popReq := rfl
@[simp] theorem readReq_bench : s.readReq.bench = s.bench := rfl

/-! `readClock` -/
@[simp] theorem readClock_cfg : s.readClock.cfg = s.cfg := rfl
@[simp] theorem readClock_phase : s.readClock.phase = s.phase := rfl
@[simp] theorem readClock_plPhase : s.readClock.plPhase = s.plPhase := rfl
@[simp] theorem readClock_plCfg : s.readClock.plCfg = s.plCfg := rfl
@[simp] theorem readClock_csDir : s.readClock.csDir = s.csDir := rfl
@[simp] theorem readClock_clkDir : s.readClock.clkDir = s.clkDir := rfl
@[simp] theorem readClock_dataDir : s.readClock.dataDir = s.dataDir := rfl
@[simp] theorem readClock_cs : s.readClock.cs = s.cs := rfl
@[simp] theorem readClock_clk : s.readClock.clk = s.clk := rfl
@[simp] theorem readClock_act : s.readClock.act = s.act := rfl
@[simp] theorem readClock_shreg : s.readClock.shreg = s.shreg := rfl
@[simp] theorem readClock_bitcnt : s.readClock.bitcnt = s.bitcnt := rfl
@[simp] theorem readClock_currentTemperature : s.readClock.currentTemperature = s.currentTemperature := rfl
@[simp] theorem readClock_actuatorRequested : s.readClock.actuatorRequested = s.actuatorRequested := rfl
@[simp] theorem readClock_notConnected : s.readClock.notConnected = s.notConnected := rfl
@[simp] theorem readClock_lastSensor : s.readClock.lastSensor = s.lastSensor := rfl
@[simp] theorem readClock_lastAct : s.readClock.lastAct = s.lastAct := rfl
@[simp] theorem readClock_reading : s.readClock.reading = s.reading := rfl
@[simp] theorem readClock_rounded : s.readClock.rounded = s.rounded := rfl
@[simp] theorem readClock_clamped : s.readClock.clamped = s.clamped := rfl
@[simp] theorem readClock_hist : s.readClock.hist = s.hist ++ [.T s.clockNow] := rfl
@[simp] theorem readClock_env : s.readClock.env = s.env.popClock := rfl
@[simp] theorem readClock_bench : s.readClock.bench = s.bench := rfl

/-! `delay` -/
@[simp] theorem delay_cfg (t : Nat) : (s.delay t).cfg = s.cfg := rfl
@[simp] theorem delay_phase (t : Nat) : (s.delay t).phase = s.phase := rfl
@[simp] theorem delay_plPhase (t : Nat) : (s.delay t).plPhase = s.plPhase := rfl
@[simp] theorem delay_plCfg (t : Nat) : (s.delay t).plCfg = s.plCfg := rfl
@[simp] theorem delay_csDir (t : Nat) : (s.delay t).csDir = s.csDir := rfl
@[simp] theorem delay_clkDir (t : Nat) : (s.delay t).clkDir = s.clkDir := rfl
@[simp] theorem delay_dataDir (t : Nat) : (s.delay t).dataDir = s.dataDir := rfl
@[simp] theorem delay_cs (t : Nat) : (s.delay t).cs = s.cs := rfl
@[simp] theorem delay_clk (t : Nat) : (s.delay t).clk = s.clk := rfl
@[simp] theorem delay_act (t : Nat) : (s.delay t).act = s.act := rfl
@[simp] theorem delay_shreg (t : Nat) : (s.delay t).shreg = s.shreg := rfl
@[simp] theorem delay_bitcnt (t : Nat) : (s.delay t).bitcnt = s.bitcnt := rfl
@[simp] theorem delay_currentTemperature (t : Nat) : (s.delay t).currentTemperature = s.currentTemperature := rfl
@[simp] theorem delay_actuatorRequested (t : Nat) : (s.delay t).actuatorRequested = s.actuatorRequested := rfl
@[simp] theorem delay_notConnected (t : Nat) : (s.delay t).notConnected = s.notConnected := rfl
@[simp] theorem delay_lastSensor (t : Nat) : (s.delay t).lastSensor = s.lastSensor := rfl
@[simp] theorem delay_lastAct (t : Nat) : (s.delay t).lastAct = s.lastAct := rfl
@[simp] theorem delay_reading (t : Nat) : (s.delay t).reading = s.reading := rfl
@[simp] theorem delay_rounded (t : Nat) : (s.delay t).rounded = s.rounded := rfl
@[simp] theorem delay_clamped (t : Nat) : (s.delay t).clamped = s.clamped := rfl
@[simp] theorem delay_hist (t : Nat) : (s.delay t).hist = s.hist ++ [.D t] := rfl
@[simp] theorem delay_env (t : Nat) : (s.delay t).env = s.env := rfl
@[simp] theorem delay_bench (t : Nat) : (s.delay t).bench = s.bench := rfl

/-! `writePhase` -/
@[simp] theorem writePhase_cfg (p : SeqCode) : (s.writePhase p).cfg = s.cfg := rfl
@[simp] theorem writePhase_phase (p : SeqCode) : (s.writePhase p).phase = p := rfl
@[simp] theorem writePhase_plPhase (p : SeqCode) : (s.writePhase p).plPhase = s.plPhase := rfl
@[simp] theorem writePhase_plCfg (p : SeqCode) : (s.writePhase p).plCfg = s.plCfg := rfl
@[simp] theorem writePhase_csDir (p : SeqCode) : (s.writePhase p).csDir = s.csDir := rfl
@[simp] theorem writePhase_clkDir (p : SeqCode) : (s.writePhase p).clkDir = s.clkDir := rfl
@[simp] theorem writePhase_dataDir (p : SeqCode) : (s.writePhase p).dataDir = s.dataDir := rfl
@[simp] theorem writePhase_cs (p : SeqCode) : (s.writePhase p).cs = s.cs := rfl
@[simp] theorem writePhase_clk (p : SeqCode) : (s.writePhase p).clk = s.clk := rfl
@[simp] theorem writePhase_act (p : SeqCode) : (s.writePhase p).act = s.act := rfl
@[simp] theorem writePhase_shreg (p : SeqCode) : (s.writePhase p).shreg = s.shreg := rfl
@[simp] theorem writePhase_bitcnt (p : SeqCode) : (s.writePhase p).bitcnt = s.bitcnt := rfl
@[simp] theorem writePhase_currentTemperature (p : SeqCode) : (s.writePhase p).currentTemperature = s.currentTemperature := rfl
@[simp] theorem writePhase_actuatorRequested (p : SeqCode) : (s.writePhase p).actuatorRequested = s.actuatorRequested := rfl
@[simp] theorem writePhase_notConnected (p : SeqCode) : (s.writePhase p).notConnected = s.notConnected := rfl
@[simp] theorem writePhase_lastSensor (p : SeqCode) : (s.writePhase p).lastSensor = s.lastSensor := rfl
@[simp] theorem writePhase_lastAct (p : SeqCode) : (s.writePhase p).lastAct = s.lastAct := rfl
@[simp] theorem writePhase_reading (p : SeqCode) : (s.writePhase p).reading = s.reading := rfl
@[simp] theorem writePhase_rounded (p : SeqCode) : (s.writePhase p).rounded = s.rounded := rfl
@[simp] theorem writePhase_clamped (p : SeqCode) : (s.writePhase p).clamped = s.clamped := rfl
@[simp] theorem writePhase_hist (p : SeqCode) : (s.writePhase p).hist = s.hist ++ [.S [(.phase, p.toNat)]] := rfl
@[simp] theorem writePhase_env (p : SeqCode) : (s.writePhase p).env = s.env := rfl
@[simp] theorem writePhase_bench (p : SeqCode) : (s.writePhase p).bench = s.bench := rfl

/-! `writePlPhase` -/
@[simp] theorem writePlPhase_cfg (p : SeqCode) : (s.writePlPhase p).cfg = s.cfg := rfl
@[simp] theorem writePlPhase_phase (p : SeqCode) : (s.writePlPhase p).phase = s.phase := rfl
@[simp] theorem writePlPhase_plPhase (p : SeqCode) : (s.writePlPhase p).plPhase = p := rfl
@[simp] theorem writePlPhase_plCfg (p : SeqCode) : (s.writePlPhase p).plCfg = s.plCfg := rfl
@[simp] theorem writePlPhase_csDir (p : SeqCode) : (s.writePlPhase p).csDir = s.csDir := rfl
@[simp] theorem writePlPhase_clkDir (p : SeqCode) : (s.writePlPhase p).clkDir = s.clkDir := rfl
@[simp] theorem writePlPhase_dataDir (p : SeqCode) : (s.writePlPhase p).dataDir = s.dataDir := rfl
@[simp] theorem writePlPhase_cs (p : SeqCode) : (s.writePlPhase p).cs = s.cs := rfl
@[simp] theorem writePlPhase_clk (p : SeqCode) : (s.writePlPhase p).clk = s.clk := rfl
@[simp] theorem writePlPhase_act (p : SeqCode) : (s.writePlPhase p).act = s.act := rfl
@[simp] theorem writePlPhase_shreg (p : SeqCode) : (s.writePlPhase p).shreg = s.shreg := rfl
@[simp] theorem writePlPhase_bitcnt (p : SeqCode) : (s.writePlPhase p).bitcnt = s.bitcnt := rfl
@[simp] theorem writePlPhase_currentTemperature (p : SeqCode) : (s.writePlPhase p).currentTemperature = s.currentTemperature := rfl
@[simp] theorem writePlPhase_actuatorRequested (p : SeqCode) : (s.writePlPhase p).actuatorRequested = s.actuatorRequested := rfl
@[simp] theorem writePlPhase_notConnected (p : SeqCode) : (s.writePlPhase p).notConnected = s.notConnected := rfl
@[simp] theorem writePlPhase_lastSensor (p : SeqCode) : (s.writePlPhase p).lastSensor = s.lastSensor := rfl
@[simp] theorem writePlPhase_lastAct (p : SeqCode) : (s.writePlPhase p).lastAct = s.lastAct := rfl
@[simp] theorem writePlPhase_reading (p : SeqCode) : (s.writePlPhase p).reading = s.reading := rfl
@[simp] theorem writePlPhase_rounded (p : SeqCode) : (s.writePlPhase p).rounded = s.rounded := rfl
@[simp] theorem writePlPhase_clamped (p : SeqCode) : (s.writePlPhase p).clamped = s.clamped := rfl
@[simp] theorem writePlPhase_hist (p : SeqCode) : (s.writePlPhase p).hist = s.hist ++ [.S [(.plPhase, p.toNat)]] := rfl
@[simp] theorem writePlPhase_env (p : SeqCode) : (s.writePlPhase p).env = s.env := rfl
@[simp] theorem writePlPhase_bench (p : SeqCode) : (s.writePlPhase p).bench = s.bench := rfl

/-! `writePlCfg` -/
@[simp] theorem writePlCfg_cfg (b : Bool) : (s.writePlCfg b).cfg = s.cfg := rfl
@[simp] theorem writePlCfg_phase (b : Bool) : (s.writePlCfg b).phase = s.phase := rfl
@[simp] theorem writePlCfg_plPhase (b : Bool) : (s.writePlCfg b).plPhase = s.plPhase := rfl
@[simp] theorem writePlCfg_plCfg (b : Bool) : (s.writePlCfg b).plCfg = b := rfl
@[simp] theorem writePlCfg_csDir (b : Bool) : (s.writePlCfg b).csDir = s.csDir := rfl
@[simp] theorem writePlCfg_clkDir (b : Bool) : (s.writePlCfg b).clkDir = s.clkDir := rfl
@[simp] theorem writePlCfg_dataDir (b : Bool) : (s.writePlCfg b).dataDir = s.dataDir := rfl
@[simp] theorem writePlCfg_cs (b : Bool) : (s.writePlCfg b).cs = s.cs := rfl
@[simp] theorem writePlCfg_clk (b : Bool) : (s.writePlCfg b).clk = s.clk := rfl
@[simp] theorem writePlCfg_act (b : Bool) : (s.writePlCfg b).act = s.act := rfl
@[simp] theorem writePlCfg_shreg (b : Bool) : (s.writePlCfg b).shreg = s.shreg := rfl
@[simp] theorem writePlCfg_bitcnt (b : Bool) : (s.writePlCfg b).bitcnt = s.bitcnt := rfl
@[simp] theorem writePlCfg_currentTemperature (b : Bool) : (s.writePlCfg b).currentTemperature = s.currentTemperature := rfl
@[simp] theorem writePlCfg_actuatorRequested (b : Bool) : (s.writePlCfg b).actuatorRequested = s.actuatorRequested := rfl
@[simp] theorem writePlCfg_notConnected (b : Bool) : (s.writePlCfg b).notConnected = s.notConnected := rfl
@[simp] theorem writePlCfg_lastSensor (b : Bool) : (s.writePlCfg b).lastSensor = s.lastSensor := rfl
@[simp] theorem writePlCfg_lastAct (b : Bool) : (s.writePlCfg b).lastAct = s.lastAct := rfl
@[simp] theorem writePlCfg_reading (b : Bool) : (s.writePlCfg b).reading = s.reading := rfl
@[simp] theorem writePlCfg_rounded (b : Bool) : (s.writePlCfg b).rounded = s.rounded := rfl
@[simp] theorem writePlCfg_clamped (b : Bool) : (s.writePlCfg b).clamped = s.clamped := rfl
@[simp] theorem writePlCfg_hist (b : Bool) : (s.writePlCfg b).hist = s.hist ++ [.S [(.plCfg, b.toNat)]] := rfl
@[simp] theorem writePlCfg_env (b : Bool) : (s.writePlCfg b).env = s.env := rfl
@[simp] theorem writePlCfg_bench (b : Bool) : (s.writePlCfg b).bench = s.bench := rfl

/-! `writeShreg` -/
@[simp] theorem writeShreg_cfg (v : RawSample) : (s.writeShreg v).cfg = s.cfg := rfl
@[simp] theorem writeShreg_phase (v : RawSample) : (s.writeShreg v).phase = s.phase := rfl
@[simp] theorem writeShreg_plPhase (v : RawSample) : (s.writeShreg v).plPhase = s.plPhase := rfl
@[simp] theorem writeShreg_plCfg (v : RawSample) : (s.writeShreg v).plCfg = s.plCfg := rfl
@[simp] theorem writeShreg_csDir (v : RawSample) : (s.writeShreg v).csDir = s.csDir := rfl
@[simp] theorem writeShreg_clkDir (v : RawSample) : (s.writeShreg v).clkDir = s.clkDir := rfl
@[simp] theorem writeShreg_dataDir (v : RawSample) : (s.writeShreg v).dataDir = s.dataDir := rfl
@[simp] theorem writeShreg_cs (v : RawSample) : (s.writeShreg v).cs = s.cs := rfl
@[simp] theorem writeShreg_clk (v : RawSample) : (s.writeShreg v).clk = s.clk := rfl
@[simp] theorem writeShreg_act (v : RawSample) : (s.writeShreg v).act = s.act := rfl
@[simp] theorem writeShreg_shreg (v : RawSample) : (s.writeShreg v).shreg = v := rfl
@[simp] theorem writeShreg_bitcnt (v : RawSample) : (s.writeShreg v).bitcnt = s.bitcnt := rfl
@[simp] theorem writeShreg_currentTemperature (v : RawSample) : (s.writeShreg v).currentTemperature = s.currentTemperature := rfl
@[simp] theorem writeShreg_actuatorRequested (v : RawSample) : (s.writeShreg v).actuatorRequested = s.actuatorRequested := rfl
@[simp] theorem writeShreg_notConnected (v : RawSample) : (s.writeShreg v).notConnected = s.notConnected := rfl
@[simp] theorem writeShreg_lastSensor (v : RawSample) : (s.writeShreg v).lastSensor = s.lastSensor := rfl
@[simp] theorem writeShreg_lastAct (v : RawSample) : (s.writeShreg v).lastAct = s.lastAct := rfl
@[simp] theorem writeShreg_reading (v : RawSample) : (s.writeShreg v).reading = s.reading := rfl
@[simp] theorem writeShreg_rounded (v : RawSample) : (s.writeShreg v).rounded = s.rounded := rfl
@[simp] theorem writeShreg_clamped (v : RawSample) : (s.writeShreg v).clamped = s.clamped := rfl
@[simp] theorem writeShreg_hist (v : RawSample) : (s.writeShreg v).hist = s.hist ++ [.S [(.shreg, v.toNat)]] := rfl
@[simp] theorem writeShreg_env (v : RawSample) : (s.writeShreg v).env = s.env := rfl
@[simp] theorem writeShreg_bench (v : RawSample) : (s.writeShreg v).bench = s.bench := rfl

/-! `writeBitcnt` -/
@[simp] theorem writeBitcnt_cfg (n : BitVec 5) : (s.writeBitcnt n).cfg = s.cfg := rfl
@[simp] theorem writeBitcnt_phase (n : BitVec 5) : (s.writeBitcnt n).phase = s.phase := rfl
@[simp] theorem writeBitcnt_plPhase (n : BitVec 5) : (s.writeBitcnt n).plPhase = s.plPhase := rfl
@[simp] theorem writeBitcnt_plCfg (n : BitVec 5) : (s.writeBitcnt n).plCfg = s.plCfg := rfl
@[simp] theorem writeBitcnt_csDir (n : BitVec 5) : (s.writeBitcnt n).csDir = s.csDir := rfl
@[simp] theorem writeBitcnt_clkDir (n : BitVec 5) : (s.writeBitcnt n).clkDir = s.clkDir := rfl
@[simp] theorem writeBitcnt_dataDir (n : BitVec 5) : (s.writeBitcnt n).dataDir = s.dataDir := rfl
@[simp] theorem writeBitcnt_cs (n : BitVec 5) : (s.writeBitcnt n).cs = s.cs := rfl
@[simp] theorem writeBitcnt_clk (n : BitVec 5) : (s.writeBitcnt n).clk = s.clk := rfl
@[simp] theorem writeBitcnt_act (n : BitVec 5) : (s.writeBitcnt n).act = s.act := rfl
@[simp] theorem writeBitcnt_shreg (n : BitVec 5) : (s.writeBitcnt n).shreg = s.shreg := rfl
@[simp] theorem writeBitcnt_bitcnt (n : BitVec 5) : (s.writeBitcnt n).bitcnt = n := rfl
@[simp] theorem writeBitcnt_currentTemperature (n : BitVec 5) : (s.writeBitcnt n).currentTemperature = s.currentTemperature := rfl
@[simp] theorem writeBitcnt_actuatorRequested (n : BitVec 5) : (s.writeBitcnt n).actuatorRequested = s.actuatorRequested := rfl
@[simp] theorem writeBitcnt_notConnected (n : BitVec 5) : (s.writeBitcnt n).notConnected = s.notConnected := rfl
@[simp] theorem writeBitcnt_lastSensor (n : BitVec 5) : (s.writeBitcnt n).lastSensor = s.lastSensor := rfl
@[simp] theorem writeBitcnt_lastAct (n : BitVec 5) : (s.writeBitcnt n).lastAct = s.lastAct := rfl
@[simp] theorem writeBitcnt_reading (n : BitVec 5) : (s.writeBitcnt n).reading = s.reading := rfl
@[simp] theorem writeBitcnt_rounded (n : BitVec 5) : (s.writeBitcnt n).rounded = s.rounded := rfl
@[simp] theorem writeBitcnt_clamped (n : BitVec 5) : (s.writeBitcnt n).clamped = s.clamped := rfl
@[simp] theorem writeBitcnt_hist (n : BitVec 5) : (s.writeBitcnt n).hist = s.hist ++ [.S [(.bitcnt, n.toNat)]] := rfl
@[simp] theorem writeBitcnt_env (n : BitVec 5) : (s.writeBitcnt n).env = s.env := rfl
@[simp] theorem writeBitcnt_bench (n : BitVec 5) : (s.writeBitcnt n).bench = s.bench := rfl

/-! `writeTemperature` -/
@[simp] theorem writeTemperature_cfg (t : Degrees) : (s.writeTemperature t).cfg = s.cfg := rfl
@[simp] theorem writeTemperature_phase (t : Degrees) : (s.writeTemperature t).phase = s.phase := rfl
@[simp] theorem writeTemperature_plPhase (t : Degrees) : (s.writeTemperature t).plPhase = s.plPhase := rfl
@[simp] theorem writeTemperature_plCfg (t : Degrees) : (s.writeTemperature t).plCfg = s.plCfg := rfl
@[simp] theorem writeTemperature_csDir (t : Degrees) : (s.writeTemperature t).csDir = s.csDir := rfl
@[simp] theorem writeTemperature_clkDir (t : Degrees) : (s.writeTemperature t).clkDir = s.clkDir := rfl
@[simp] theorem writeTemperature_dataDir (t : Degrees) : (s.writeTemperature t).dataDir = s.dataDir := rfl
@[simp] theorem writeTemperature_cs (t : Degrees) : (s.writeTemperature t).cs = s.cs := rfl
@[simp] theorem writeTemperature_clk (t : Degrees) : (s.writeTemperature t).clk = s.clk := rfl
@[simp] theorem writeTemperature_act (t : Degrees) : (s.writeTemperature t).act = s.act := rfl
@[simp] theorem writeTemperature_shreg (t : Degrees) : (s.writeTemperature t).shreg = s.shreg := rfl
@[simp] theorem writeTemperature_bitcnt (t : Degrees) : (s.writeTemperature t).bitcnt = s.bitcnt := rfl
@[simp] theorem writeTemperature_currentTemperature (t : Degrees) : (s.writeTemperature t).currentTemperature = t := rfl
@[simp] theorem writeTemperature_actuatorRequested (t : Degrees) : (s.writeTemperature t).actuatorRequested = s.actuatorRequested := rfl
@[simp] theorem writeTemperature_notConnected (t : Degrees) : (s.writeTemperature t).notConnected = s.notConnected := rfl
@[simp] theorem writeTemperature_lastSensor (t : Degrees) : (s.writeTemperature t).lastSensor = s.lastSensor := rfl
@[simp] theorem writeTemperature_lastAct (t : Degrees) : (s.writeTemperature t).lastAct = s.lastAct := rfl
@[simp] theorem writeTemperature_reading (t : Degrees) : (s.writeTemperature t).reading = s.reading := rfl
@[simp] theorem writeTemperature_rounded (t : Degrees) : (s.writeTemperature t).rounded = s.rounded := rfl
@[simp] theorem writeTemperature_clamped (t : Degrees) : (s.writeTemperature t).clamped = s.clamped := rfl
@[simp] theorem writeTemperature_hist (t : Degrees) : (s.writeTemperature t).hist = s.hist ++ [.S [(.currentTemperature, t.toNat)]] := rfl
@[simp] theorem writeTemperature_env (t : Degrees) : (s.writeTemperature t).env = s.env := rfl
@[simp] theorem writeTemperature_bench (t : Degrees) : (s.writeTemperature t).bench = s.bench := rfl

/-! `writeRequested` -/
@[simp] theorem writeRequested_cfg (b : Bool) : (s.writeRequested b).cfg = s.cfg := rfl
@[simp] theorem writeRequested_phase (b : Bool) : (s.writeRequested b).phase = s.phase := rfl
@[simp] theorem writeRequested_plPhase (b : Bool) : (s.writeRequested b).plPhase = s.plPhase := rfl
@[simp] theorem writeRequested_plCfg (b : Bool) : (s.writeRequested b).plCfg = s.plCfg := rfl
@[simp] theorem writeRequested_csDir (b : Bool) : (s.writeRequested b).csDir = s.csDir := rfl
@[simp] theorem writeRequested_clkDir (b : Bool) : (s.writeRequested b).clkDir = s.clkDir := rfl
@[simp] theorem writeRequested_dataDir (b : Bool) : (s.writeRequested b).dataDir = s.dataDir := rfl
@[simp] theorem writeRequested_cs (b : Bool) : (s.writeRequested b).cs = s.cs := rfl
@[simp] theorem writeRequested_clk (b : Bool) : (s.writeRequested b).clk = s.clk := rfl
@[simp] theorem writeRequested_act (b : Bool) : (s.writeRequested b).act = s.act := rfl
@[simp] theorem writeRequested_shreg (b : Bool) : (s.writeRequested b).shreg = s.shreg := rfl
@[simp] theorem writeRequested_bitcnt (b : Bool) : (s.writeRequested b).bitcnt = s.bitcnt := rfl
@[simp] theorem writeRequested_currentTemperature (b : Bool) : (s.writeRequested b).currentTemperature = s.currentTemperature := rfl
@[simp] theorem writeRequested_actuatorRequested (b : Bool) : (s.writeRequested b).actuatorRequested = b := rfl
@[simp] theorem writeRequested_notConnected (b : Bool) : (s.writeRequested b).notConnected = s.notConnected := rfl
@[simp] theorem writeRequested_lastSensor (b : Bool) : (s.writeRequested b).lastSensor = s.lastSensor := rfl
@[simp] theorem writeRequested_lastAct (b : Bool) : (s.writeRequested b).lastAct = s.lastAct := rfl
@[simp] theorem writeRequested_reading (b : Bool) : (s.writeRequested b).reading = s.reading := rfl
@[simp] theorem writeRequested_rounded (b : Bool) : (s.writeRequested b).rounded = s.rounded := rfl
@[simp] theorem writeRequested_clamped (b : Bool) : (s.writeRequested b).clamped = s.clamped := rfl
@[simp] theorem writeRequested_hist (b : Bool) : (s.writeRequested b).hist = s.hist ++ [.S [(.actuatorRequested, b.toNat)]] := rfl
@[simp] theorem writeRequested_env (b : Bool) : (s.writeRequested b).env = s.env := rfl
@[simp] theorem writeRequested_bench (b : Bool) : (s.writeRequested b).bench = s.bench := rfl

/-! `writeNotConnected` -/
@[simp] theorem writeNotConnected_cfg (b : Bool) : (s.writeNotConnected b).cfg = s.cfg := rfl
@[simp] theorem writeNotConnected_phase (b : Bool) : (s.writeNotConnected b).phase = s.phase := rfl
@[simp] theorem writeNotConnected_plPhase (b : Bool) : (s.writeNotConnected b).plPhase = s.plPhase := rfl
@[simp] theorem writeNotConnected_plCfg (b : Bool) : (s.writeNotConnected b).plCfg = s.plCfg := rfl
@[simp] theorem writeNotConnected_csDir (b : Bool) : (s.writeNotConnected b).csDir = s.csDir := rfl
@[simp] theorem writeNotConnected_clkDir (b : Bool) : (s.writeNotConnected b).clkDir = s.clkDir := rfl
@[simp] theorem writeNotConnected_dataDir (b : Bool) : (s.writeNotConnected b).dataDir = s.dataDir := rfl
@[simp] theorem writeNotConnected_cs (b : Bool) : (s.writeNotConnected b).cs = s.cs := rfl
@[simp] theorem writeNotConnected_clk (b : Bool) : (s.writeNotConnected b).clk = s.clk := rfl
@[simp] theorem writeNotConnected_act (b : Bool) : (s.writeNotConnected b).act = s.act := rfl
@[simp] theorem writeNotConnected_shreg (b : Bool) : (s.writeNotConnected b).shreg = s.shreg := rfl
@[simp] theorem writeNotConnected_bitcnt (b : Bool) : (s.writeNotConnected b).bitcnt = s.bitcnt := rfl
@[simp] theorem writeNotConnected_currentTemperature (b : Bool) : (s.writeNotConnected b).currentTemperature = s.currentTemperature := rfl
@[simp] theorem writeNotConnected_actuatorRequested (b : Bool) : (s.writeNotConnected b).actuatorRequested = s.actuatorRequested := rfl
@[simp] theorem writeNotConnected_notConnected (b : Bool) : (s.writeNotConnected b).notConnected = b := rfl
@[simp] theorem writeNotConnected_lastSensor (b : Bool) : (s.writeNotConnected b).lastSensor = s.lastSensor := rfl
@[simp] theorem writeNotConnected_lastAct (b : Bool) : (s.writeNotConnected b).lastAct = s.lastAct := rfl
@[simp] theorem writeNotConnected_reading (b : Bool) : (s.writeNotConnected b).reading = s.reading := rfl
@[simp] theorem writeNotConnected_rounded (b : Bool) : (s.writeNotConnected b).rounded = s.rounded := rfl
@[simp] theorem writeNotConnected_clamped (b : Bool) : (s.writeNotConnected b).clamped = s.clamped := rfl
@[simp] theorem writeNotConnected_hist (b : Bool) : (s.writeNotConnected b).hist = s.hist ++ [.S [(.notConnected, b.toNat)]] := rfl
@[simp] theorem writeNotConnected_env (b : Bool) : (s.writeNotConnected b).env = s.env := rfl
@[simp] theorem writeNotConnected_bench (b : Bool) : (s.writeNotConnected b).bench = s.bench := rfl

/-! `writeReport` -/
@[simp] theorem writeReport_cfg (t : Degrees) (b : Bool) : (s.writeReport t b).cfg = s.cfg := rfl
@[simp] theorem writeReport_phase (t : Degrees) (b : Bool) : (s.writeReport t b).phase = s.phase := rfl
@[simp] theorem writeReport_plPhase (t : Degrees) (b : Bool) : (s.writeReport t b).plPhase = s.plPhase := rfl
@[simp] theorem writeReport_plCfg (t : Degrees) (b : Bool) : (s.writeReport t b).plCfg = s.plCfg := rfl
@[simp] theorem writeReport_csDir (t : Degrees) (b : Bool) : (s.writeReport t b).csDir = s.csDir := rfl
@[simp] theorem writeReport_clkDir (t : Degrees) (b : Bool) : (s.writeReport t b).clkDir = s.clkDir := rfl
@[simp] theorem writeReport_dataDir (t : Degrees) (b : Bool) : (s.writeReport t b).dataDir = s.dataDir := rfl
@[simp] theorem writeReport_cs (t : Degrees) (b : Bool) : (s.writeReport t b).cs = s.cs := rfl
@[simp] theorem writeReport_clk (t : Degrees) (b : Bool) : (s.writeReport t b).clk = s.clk := rfl
@[simp] theorem writeReport_act (t : Degrees) (b : Bool) : (s.writeReport t b).act = s.act := rfl
@[simp] theorem writeReport_shreg (t : Degrees) (b : Bool) : (s.writeReport t b).shreg = s.shreg := rfl
@[simp] theorem writeReport_bitcnt (t : Degrees) (b : Bool) : (s.writeReport t b).bitcnt = s.bitcnt := rfl
@[simp] theorem writeReport_currentTemperature (t : Degrees) (b : Bool) : (s.writeReport t b).currentTemperature = t := rfl
@[simp] theorem writeReport_actuatorRequested (t : Degrees) (b : Bool) : (s.writeReport t b).actuatorRequested = s.actuatorRequested := rfl
@[simp] theorem writeReport_notConnected (t : Degrees) (b : Bool) : (s.writeReport t b).notConnected = b := rfl
@[simp] theorem writeReport_lastSensor (t : Degrees) (b : Bool) : (s.writeReport t b).lastSensor = s.lastSensor := rfl
@[simp] theorem writeReport_lastAct (t : Degrees) (b : Bool) : (s.writeReport t b).lastAct = s.lastAct := rfl
@[simp] theorem writeReport_reading (t : Degrees) (b : Bool) : (s.writeReport t b).reading = s.reading := rfl
@[simp] theorem writeReport_rounded (t : Degrees) (b : Bool) : (s.writeReport t b).rounded = s.rounded := rfl
@[simp] theorem writeReport_clamped (t : Degrees) (b : Bool) : (s.writeReport t b).clamped = s.clamped := rfl
@[simp] theorem writeReport_hist (t : Degrees) (b : Bool) : (s.writeReport t b).hist = s.hist ++ [.S [(.currentTemperature, t.toNat), (.notConnected, b.toNat)]] := rfl
@[simp] theorem writeReport_env (t : Degrees) (b : Bool) : (s.writeReport t b).env = s.env := rfl
@[simp] theorem writeReport_bench (t : Degrees) (b : Bool) : (s.writeReport t b).bench = s.bench := rfl

/-! `writeLastSensor` -/
@[simp] theorem writeLastSensor_cfg (n : Ms) : (s.writeLastSensor n).cfg = s.cfg := rfl
@[simp] theorem writeLastSensor_phase (n : Ms) : (s.writeLastSensor n).phase = s.phase := rfl
@[simp] theorem writeLastSensor_plPhase (n : Ms) : (s.writeLastSensor n).plPhase = s.plPhase := rfl
@[simp] theorem writeLastSensor_plCfg (n : Ms) : (s.writeLastSensor n).plCfg = s.plCfg := rfl
@[simp] theorem writeLastSensor_csDir (n : Ms) : (s.writeLastSensor n).csDir = s.csDir := rfl
@[simp] theorem writeLastSensor_clkDir (n : Ms) : (s.writeLastSensor n).clkDir = s.clkDir := rfl
@[simp] theorem writeLastSensor_dataDir (n : Ms) : (s.writeLastSensor n).dataDir = s.dataDir := rfl
@[simp] theorem writeLastSensor_cs (n : Ms) : (s.writeLastSensor n).cs = s.cs := rfl
@[simp] theorem writeLastSensor_clk (n : Ms) : (s.writeLastSensor n).clk = s.clk := rfl
@[simp] theorem writeLastSensor_act (n : Ms) : (s.writeLastSensor n).act = s.act := rfl
@[simp] theorem writeLastSensor_shreg (n : Ms) : (s.writeLastSensor n).shreg = s.shreg := rfl
@[simp] theorem writeLastSensor_bitcnt (n : Ms) : (s.writeLastSensor n).bitcnt = s.bitcnt := rfl
@[simp] theorem writeLastSensor_currentTemperature (n : Ms) : (s.writeLastSensor n).currentTemperature = s.currentTemperature := rfl
@[simp] theorem writeLastSensor_actuatorRequested (n : Ms) : (s.writeLastSensor n).actuatorRequested = s.actuatorRequested := rfl
@[simp] theorem writeLastSensor_notConnected (n : Ms) : (s.writeLastSensor n).notConnected = s.notConnected := rfl
@[simp] theorem writeLastSensor_lastSensor (n : Ms) : (s.writeLastSensor n).lastSensor = n := rfl
@[simp] theorem writeLastSensor_lastAct (n : Ms) : (s.writeLastSensor n).lastAct = s.lastAct := rfl
@[simp] theorem writeLastSensor_reading (n : Ms) : (s.writeLastSensor n).reading = s.reading := rfl
@[simp] theorem writeLastSensor_rounded (n : Ms) : (s.writeLastSensor n).rounded = s.rounded := rfl
@[simp] theorem writeLastSensor_clamped (n : Ms) : (s.writeLastSensor n).clamped = s.clamped := rfl
@[simp] theorem writeLastSensor_hist (n : Ms) : (s.writeLastSensor n).hist = s.hist ++ [.S [(.lastSensor, n.toNat)]] := rfl
@[simp] theorem writeLastSensor_env (n : Ms) : (s.writeLastSensor n).env = s.env := rfl
@[simp] theorem writeLastSensor_bench (n : Ms) : (s.writeLastSensor n).bench = s.bench := rfl

/-! `writeLastAct` -/
@[simp] theorem writeLastAct_cfg (n : Ms) : (s.writeLastAct n).cfg = s.cfg := rfl
@[simp] theorem writeLastAct_phase (n : Ms) : (s.writeLastAct n).phase = s.phase := rfl
@[simp] theorem writeLastAct_plPhase (n : Ms) : (s.writeLastAct n).plPhase = s.plPhase := rfl
@[simp] theorem writeLastAct_plCfg (n : Ms) : (s.writeLastAct n).plCfg = s.plCfg := rfl
@[simp] theorem writeLastAct_csDir (n : Ms) : (s.writeLastAct n).csDir = s.csDir := rfl
@[simp] theorem writeLastAct_clkDir (n : Ms) : (s.writeLastAct n).clkDir = s.clkDir := rfl
@[simp] theorem writeLastAct_dataDir (n : Ms) : (s.writeLastAct n).dataDir = s.dataDir := rfl
@[simp] theorem writeLastAct_cs (n : Ms) : (s.writeLastAct n).cs = s.cs := rfl
@[simp] theorem writeLastAct_clk (n : Ms) : (s.writeLastAct n).clk = s.clk := rfl
@[simp] theorem writeLastAct_act (n : Ms) : (s.writeLastAct n).act = s.act := rfl
@[simp] theorem writeLastAct_shreg (n : Ms) : (s.writeLastAct n).shreg = s.shreg := rfl
@[simp] theorem writeLastAct_bitcnt (n : Ms) : (s.writeLastAct n).bitcnt = s.bitcnt := rfl
@[simp] theorem writeLastAct_currentTemperature (n : Ms) : (s.writeLastAct n).currentTemperature = s.currentTemperature := rfl
@[simp] theorem writeLastAct_actuatorRequested (n : Ms) : (s.writeLastAct n).actuatorRequested = s.actuatorRequested := rfl
@[simp] theorem writeLastAct_notConnected (n : Ms) : (s.writeLastAct n).notConnected = s.notConnected := rfl
@[simp] theorem writeLastAct_lastSensor (n : Ms) : (s.writeLastAct n).lastSensor = s.lastSensor := rfl
@[simp] theorem writeLastAct_lastAct (n : Ms) : (s.writeLastAct n).lastAct = n := rfl
@[simp] theorem writeLastAct_reading (n : Ms) : (s.writeLastAct n).reading = s.reading := rfl
@[simp] theorem writeLastAct_rounded (n : Ms) : (s.writeLastAct n).rounded = s.rounded := rfl
@[simp] theorem writeLastAct_clamped (n : Ms) : (s.writeLastAct n).clamped = s.clamped := rfl
@[simp] theorem writeLastAct_hist (n : Ms) : (s.writeLastAct n).hist = s.hist ++ [.S [(.lastAct, n.toNat)]] := rfl
@[simp] theorem writeLastAct_env (n : Ms) : (s.writeLastAct n).env = s.env := rfl
@[simp] theorem writeLastAct_bench (n : Ms) : (s.writeLastAct n).bench = s.bench := rfl

/-! `configureLines` -/
@[simp] theorem configureLines_cfg : s.configureLines.cfg = s.cfg := rfl
@[simp] theorem configureLines_phase : s.configureLines.phase = s.phase := rfl
@[simp] theorem configureLines_plPhase : s.configureLines.plPhase = s.plPhase := rfl
@[simp] theorem configureLines_plCfg : s.configureLines.plCfg = s.plCfg := rfl
@[simp] theorem configureLines_csDir : s.configureLines.csDir = .output := rfl
@[simp] theorem configureLines_clkDir : s.configureLines.clkDir = .output := rfl
@[simp] theorem configureLines_dataDir : s.configureLines.dataDir = .input := rfl
@[simp] theorem configureLines_cs : s.configureLines.cs = s.cs := rfl
@[simp] theorem configureLines_clk : s.configureLines.clk = s.clk := rfl
@[simp] theorem configureLines_act : s.configureLines.act = s.act := rfl
@[simp] theorem configureLines_shreg : s.configureLines.shreg = s.shreg := rfl
@[simp] theorem configureLines_bitcnt : s.configureLines.bitcnt = s.bitcnt := rfl
@[simp] theorem configureLines_currentTemperature : s.configureLines.currentTemperature = s.currentTemperature := rfl
@[simp] theorem configureLines_actuatorRequested : s.configureLines.actuatorRequested = s.actuatorRequested := rfl
@[simp] theorem configureLines_notConnected : s.configureLines.notConnected = s.notConnected := rfl
@[simp] theorem configureLines_lastSensor : s.configureLines.lastSensor = s.lastSensor := rfl
@[simp] theorem configureLines_lastAct : s.configureLines.lastAct = s.lastAct := rfl
@[simp] theorem configureLines_reading : s.configureLines.reading = s.reading := rfl
@[simp] theorem configureLines_rounded : s.configureLines.rounded = s.rounded := rfl
@[simp] theorem configureLines_clamped : s.configureLines.clamped = s.clamped := rfl
@[simp] theorem configureLines_hist : s.configureLines.hist = s.hist := rfl
@[simp] theorem configureLines_env : s.configureLines.env = s.env := rfl
@[simp] theorem configureLines_bench : s.configureLines.bench = s.bench := rfl

/-! `takeFree` -/
@[simp] theorem takeFree_cfg : s.takeFree.cfg = s.cfg := rfl
@[simp] theorem takeFree_phase : s.takeFree.phase = s.phase := rfl
@[simp] theorem takeFree_plPhase : s.takeFree.plPhase = s.plPhase := rfl
@[simp] theorem takeFree_plCfg : s.takeFree.plCfg = s.plCfg := rfl
@[simp] theorem takeFree_csDir : s.takeFree.csDir = s.csDir := rfl
@[simp] theorem takeFree_clkDir : s.takeFree.clkDir = s.clkDir := rfl
@[simp] theorem takeFree_dataDir : s.takeFree.dataDir = s.dataDir := rfl
@[simp] theorem takeFree_cs : s.takeFree.cs = s.cs := rfl
@[simp] theorem takeFree_clk : s.takeFree.clk = s.clk := rfl
@[simp] theorem takeFree_act : s.takeFree.act = s.act := rfl
@[simp] theorem takeFree_shreg : s.takeFree.shreg = s.shreg := rfl
@[simp] theorem takeFree_bitcnt : s.takeFree.bitcnt = s.bitcnt := rfl
@[simp] theorem takeFree_currentTemperature : s.takeFree.currentTemperature = s.currentTemperature := rfl
@[simp] theorem takeFree_actuatorRequested : s.takeFree.actuatorRequested = s.actuatorRequested := rfl
@[simp] theorem takeFree_notConnected : s.takeFree.notConnected = s.notConnected := rfl
@[simp] theorem takeFree_lastSensor : s.takeFree.lastSensor = s.lastSensor := rfl
@[simp] theorem takeFree_lastAct : s.takeFree.lastAct = s.lastAct := rfl
@[simp] theorem takeFree_reading : s.takeFree.reading = s.reading := rfl
@[simp] theorem takeFree_rounded : s.takeFree.rounded = s.rounded := rfl
@[simp] theorem takeFree_clamped : s.takeFree.clamped = s.clamped := rfl
@[simp] theorem takeFree_hist : s.takeFree.hist = s.hist := rfl
@[simp] theorem takeFree_env : s.takeFree.env = s.env.popFree := rfl
@[simp] theorem takeFree_bench : s.takeFree.bench = s.bench := rfl

/-! `decodeRaw` -/
@[simp] theorem decodeRaw_cfg : s.decodeRaw.cfg = s.cfg := rfl
@[simp] theorem decodeRaw_phase : s.decodeRaw.phase = s.phase := rfl
@[simp] theorem decodeRaw_plPhase : s.decodeRaw.plPhase = s.plPhase := rfl
@[simp] theorem decodeRaw_plCfg : s.decodeRaw.plCfg = s.plCfg := rfl
@[simp] theorem decodeRaw_csDir : s.decodeRaw.csDir = s.csDir := rfl
@[simp] theorem decodeRaw_clkDir : s.decodeRaw.clkDir = s.clkDir := rfl
@[simp] theorem decodeRaw_dataDir : s.decodeRaw.dataDir = s.dataDir := rfl
@[simp] theorem decodeRaw_cs : s.decodeRaw.cs = s.cs := rfl
@[simp] theorem decodeRaw_clk : s.decodeRaw.clk = s.clk := rfl
@[simp] theorem decodeRaw_act : s.decodeRaw.act = s.act := rfl
@[simp] theorem decodeRaw_shreg : s.decodeRaw.shreg = s.shreg := rfl
@[simp] theorem decodeRaw_bitcnt : s.decodeRaw.bitcnt = s.bitcnt := rfl
@[simp] theorem decodeRaw_currentTemperature : s.decodeRaw.currentTemperature = s.currentTemperature := rfl
@[simp] theorem decodeRaw_actuatorRequested : s.decodeRaw.actuatorRequested = s.actuatorRequested := rfl
@[simp] theorem decodeRaw_notConnected : s.decodeRaw.notConnected = s.notConnected := rfl
@[simp] theorem decodeRaw_lastSensor : s.decodeRaw.lastSensor = s.lastSensor := rfl
@[simp] theorem decodeRaw_lastAct : s.decodeRaw.lastAct = s.lastAct := rfl
@[simp] theorem decodeRaw_reading : s.decodeRaw.reading = decodeSample s.shreg := rfl
@[simp] theorem decodeRaw_rounded : s.decodeRaw.rounded = s.rounded := rfl
@[simp] theorem decodeRaw_clamped : s.decodeRaw.clamped = s.clamped := rfl
@[simp] theorem decodeRaw_hist : s.decodeRaw.hist = s.hist := rfl
@[simp] theorem decodeRaw_env : s.decodeRaw.env = s.env := rfl
@[simp] theorem decodeRaw_bench : s.decodeRaw.bench = s.bench := rfl

/-! `clampRounded` -/
@[simp] theorem clampRounded_cfg : s.clampRounded.cfg = s.cfg := rfl
@[simp] theorem clampRounded_phase : s.clampRounded.phase = s.phase := rfl
@[simp] theorem clampRounded_plPhase : s.clampRounded.plPhase = s.plPhase := rfl
@[simp] theorem clampRounded_plCfg : s.clampRounded.plCfg = s.plCfg := rfl
@[simp] theorem clampRounded_csDir : s.clampRounded.csDir = s.csDir := rfl
@[simp] theorem clampRounded_clkDir : s.clampRounded.clkDir = s.clkDir := rfl
@[simp] theorem clampRounded_dataDir : s.clampRounded.dataDir = s.dataDir := rfl
@[simp] theorem clampRounded_cs : s.clampRounded.cs = s.cs := rfl
@[simp] theorem clampRounded_clk : s.clampRounded.clk = s.clk := rfl
@[simp] theorem clampRounded_act : s.clampRounded.act = s.act := rfl
@[simp] theorem clampRounded_shreg : s.clampRounded.shreg = s.shreg := rfl
@[simp] theorem clampRounded_bitcnt : s.clampRounded.bitcnt = s.bitcnt := rfl
@[simp] theorem clampRounded_currentTemperature : s.clampRounded.currentTemperature = s.currentTemperature := rfl
@[simp] theorem clampRounded_actuatorRequested : s.clampRounded.actuatorRequested = s.actuatorRequested := rfl
@[simp] theorem clampRounded_notConnected : s.clampRounded.notConnected = s.notConnected := rfl
@[simp] theorem clampRounded_lastSensor : s.clampRounded.lastSensor = s.lastSensor := rfl
@[simp] theorem clampRounded_lastAct : s.clampRounded.lastAct = s.lastAct := rfl
@[simp] theorem clampRounded_reading : s.clampRounded.reading = s.reading := rfl
@[simp] theorem clampRounded_rounded : s.clampRounded.rounded = s.rounded := rfl
@[simp] theorem clampRounded_clamped : s.clampRounded.clamped = clampedWord s.rounded := rfl
@[simp] theorem clampRounded_hist : s.clampRounded.hist = s.hist := rfl
@[simp] theorem clampRounded_env : s.clampRounded.env = s.env := rfl
@[simp] theorem clampRounded_bench : s.clampRounded.bench = s.bench := rfl

/-! `lineWrite`, line by line -/
@[simp] theorem lineWrite_cs_cfg (b : Bool) : (s.lineWrite .cs b).cfg = s.cfg := rfl
@[simp] theorem lineWrite_cs_phase (b : Bool) : (s.lineWrite .cs b).phase = s.phase := rfl
@[simp] theorem lineWrite_cs_plPhase (b : Bool) : (s.lineWrite .cs b).plPhase = s.plPhase := rfl
@[simp] theorem lineWrite_cs_plCfg (b : Bool) : (s.lineWrite .cs b).plCfg = s.plCfg := rfl
@[simp] theorem lineWrite_cs_csDir (b : Bool) : (s.lineWrite .cs b).csDir = s.csDir := rfl
@[simp] theorem lineWrite_cs_clkDir (b : Bool) : (s.lineWrite .cs b).clkDir = s.clkDir := rfl
@[simp] theorem lineWrite_cs_dataDir (b : Bool) : (s.lineWrite .cs b).dataDir = s.dataDir := rfl
@[simp] theorem lineWrite_cs_cs (b : Bool) : (s.lineWrite .cs b).cs = b := rfl
@[simp] theorem lineWrite_cs_clk (b : Bool) : (s.lineWrite .cs b).clk = s.clk := rfl
@[simp] theorem lineWrite_cs_act (b : Bool) : (s.lineWrite .cs b).act = s.act := rfl
@[simp] theorem lineWrite_cs_shreg (b : Bool) : (s.lineWrite .cs b).shreg = s.shreg := rfl
@[simp] theorem lineWrite_cs_bitcnt (b : Bool) : (s.lineWrite .cs b).bitcnt = s.bitcnt := rfl
@[simp] theorem lineWrite_cs_currentTemperature (b : Bool) : (s.lineWrite .cs b).currentTemperature = s.currentTemperature := rfl
@[simp] theorem lineWrite_cs_actuatorRequested (b : Bool) : (s.lineWrite .cs b).actuatorRequested = s.actuatorRequested := rfl
@[simp] theorem lineWrite_cs_notConnected (b : Bool) : (s.lineWrite .cs b).notConnected = s.notConnected := rfl
@[simp] theorem lineWrite_cs_lastSensor (b : Bool) : (s.lineWrite .cs b).lastSensor = s.lastSensor := rfl
@[simp] theorem lineWrite_cs_lastAct (b : Bool) : (s.lineWrite .cs b).lastAct = s.lastAct := rfl
@[simp] theorem lineWrite_cs_reading (b : Bool) : (s.lineWrite .cs b).reading = s.reading := rfl
@[simp] theorem lineWrite_cs_rounded (b : Bool) : (s.lineWrite .cs b).rounded = s.rounded := rfl
@[simp] theorem lineWrite_cs_clamped (b : Bool) : (s.lineWrite .cs b).clamped = s.clamped := rfl
@[simp] theorem lineWrite_cs_hist (b : Bool) : (s.lineWrite .cs b).hist = s.hist ++ [.W .cs b] := rfl
@[simp] theorem lineWrite_cs_env (b : Bool) : (s.lineWrite .cs b).env = s.env := rfl
@[simp] theorem lineWrite_cs_bench (b : Bool) : (s.lineWrite .cs b).bench = s.bench := rfl
@[simp] theorem lineWrite_clk_cfg (b : Bool) : (s.lineWrite .clk b).cfg = s.cfg := rfl
@[simp] theorem lineWrite_clk_phase (b : Bool) : (s.lineWrite .clk b).phase = s.phase := rfl
@[simp] theorem lineWrite_clk_plPhase (b : Bool) : (s.lineWrite .clk b).plPhase = s.plPhase := rfl
@[simp] theorem lineWrite_clk_plCfg (b : Bool) : (s.lineWrite .clk b).plCfg = s.plCfg := rfl
@[simp] theorem lineWrite_clk_csDir (b : Bool) : (s.lineWrite .clk b).csDir = s.csDir := rfl
@[simp] theorem lineWrite_clk_clkDir (b : Bool) : (s.lineWrite .clk b).clkDir = s.clkDir := rfl
@[simp] theorem lineWrite_clk_dataDir (b : Bool) : (s.lineWrite .clk b).dataDir = s.dataDir := rfl
@[simp] theorem lineWrite_clk_cs (b : Bool) : (s.lineWrite .clk b).cs = s.cs := rfl
@[simp] theorem lineWrite_clk_clk (b : Bool) : (s.lineWrite .clk b).clk = b := rfl
@[simp] theorem lineWrite_clk_act (b : Bool) : (s.lineWrite .clk b).act = s.act := rfl
@[simp] theorem lineWrite_clk_shreg (b : Bool) : (s.lineWrite .clk b).shreg = s.shreg := rfl
@[simp] theorem lineWrite_clk_bitcnt (b : Bool) : (s.lineWrite .clk b).bitcnt = s.bitcnt := rfl
@[simp] theorem lineWrite_clk_currentTemperature (b : Bool) : (s.lineWrite .clk b).currentTemperature = s.currentTemperature := rfl
@[simp] theorem lineWrite_clk_actuatorRequested (b : Bool) : (s.lineWrite .clk b).actuatorRequested = s.actuatorRequested := rfl
@[simp] theorem lineWrite_clk_notConnected (b : Bool) : (s.lineWrite .clk b).notConnected = s.notConnected := rfl
@[simp] theorem lineWrite_clk_lastSensor (b : Bool) : (s.lineWrite .clk b).lastSensor = s.lastSensor := rfl
@[simp] theorem lineWrite_clk_lastAct (b : Bool) : (s.lineWrite .clk b).lastAct = s.lastAct := rfl
@[simp] theorem lineWrite_clk_reading (b : Bool) : (s.lineWrite .clk b).reading = s.reading := rfl
@[simp] theorem lineWrite_clk_rounded (b : Bool) : (s.lineWrite .clk b).rounded = s.rounded := rfl
@[simp] theorem lineWrite_clk_clamped (b : Bool) : (s.lineWrite .clk b).clamped = s.clamped := rfl
@[simp] theorem lineWrite_clk_hist (b : Bool) : (s.lineWrite .clk b).hist = s.hist ++ [.W .clk b] := rfl
@[simp] theorem lineWrite_clk_env (b : Bool) : (s.lineWrite .clk b).env = s.env := rfl
@[simp] theorem lineWrite_clk_bench (b : Bool) : (s.lineWrite .clk b).bench = s.bench := rfl
@[simp] theorem lineWrite_act_cfg (b : Bool) : (s.lineWrite .act b).cfg = s.cfg := rfl
@[simp] theorem lineWrite_act_phase (b : Bool) : (s.lineWrite .act b).phase = s.phase := rfl
@[simp] theorem lineWrite_act_plPhase (b : Bool) : (s.lineWrite .act b).plPhase = s.plPhase := rfl
@[simp] theorem lineWrite_act_plCfg (b : Bool) : (s.lineWrite .act b).plCfg = s.plCfg := rfl
@[simp] theorem lineWrite_act_csDir (b : Bool) : (s.lineWrite .act b).csDir = s.csDir := rfl
@[simp] theorem lineWrite_act_clkDir (b : Bool) : (s.lineWrite .act b).clkDir = s.clkDir := rfl
@[simp] theorem lineWrite_act_dataDir (b : Bool) : (s.lineWrite .act b).dataDir = s.dataDir := rfl
@[simp] theorem lineWrite_act_cs (b : Bool) : (s.lineWrite .act b).cs = s.cs := rfl
@[simp] theorem lineWrite_act_clk (b : Bool) : (s.lineWrite .act b).clk = s.clk := rfl
@[simp] theorem lineWrite_act_act (b : Bool) : (s.lineWrite .act b).act = b := rfl
@[simp] theorem lineWrite_act_shreg (b : Bool) : (s.lineWrite .act b).shreg = s.shreg := rfl
@[simp] theorem lineWrite_act_bitcnt (b : Bool) : (s.lineWrite .act b).bitcnt = s.bitcnt := rfl
@[simp] theorem lineWrite_act_currentTemperature (b : Bool) : (s.lineWrite .act b).currentTemperature = s.currentTemperature := rfl
@[simp] theorem lineWrite_act_actuatorRequested (b : Bool) : (s.lineWrite .act b).actuatorRequested = s.actuatorRequested := rfl
@[simp] theorem lineWrite_act_notConnected (b : Bool) : (s.lineWrite .act b).notConnected = s.notConnected := rfl
@[simp] theorem lineWrite_act_lastSensor (b : Bool) : (s.lineWrite .act b).lastSensor = s.lastSensor := rfl
@[simp] theorem lineWrite_act_lastAct (b : Bool) : (s.lineWrite .act b).lastAct = s.lastAct := rfl
@[simp] theorem lineWrite_act_reading (b : Bool) : (s.lineWrite .act b).reading = s.reading := rfl
@[simp] theorem lineWrite_act_rounded (b : Bool) : (s.lineWrite .act b).rounded = s.rounded := rfl
@[simp] theorem lineWrite_act_clamped (b : Bool) : (s.lineWrite .act b).clamped = s.clamped := rfl
@[simp] theorem lineWrite_act_hist (b : Bool) : (s.lineWrite .act b).hist = s.hist ++ [.W .act b] := rfl
@[simp] theorem lineWrite_act_env (b : Bool) : (s.lineWrite .act b).env = s.env := rfl
@[simp] theorem lineWrite_act_bench (b : Bool) : (s.lineWrite .act b).bench = s.bench := rfl

/-! The samples read the environment alone. -/
theorem dataBit_eq : s.dataBit = s.env.dataBit := rfl
theorem reqBit_eq : s.reqBit = s.env.reqBit := rfl
theorem clockNow_eq : s.clockNow = s.env.popClock.now := rfl

end Sys2Proof.Machine
end

