-- ==== Sys2Proof/Laws/Ops.lean ====
section
/-! SUPPORT. For each shared operation, one lemma that says everything it does; proofs cite these and unfold nothing. -/

namespace Sys2Proof.Machine

variable (s : State)

/-! The environment. -/

theorem Env.popData_cons (e : Env) (b : Bool) (bs : List Bool) (h : e.data = b :: bs) :
    e.dataBit = b ∧ e.popData = { e with data := bs } := by
  simp [Env.dataBit, Env.popData, h]

theorem Env.popData_nil (e : Env) (h : e.data = []) :
    e.dataBit = Config.freeData e.draws ∧ e.popData = { e with draws := e.draws + 1 } := by
  simp [Env.dataBit, Env.popData, h]

/-- A sample of DATA moves nothing of the environment but its script and its counter. -/
theorem Env.popData_frame (e : Env) :
    e.popData.ms = e.ms ∧ e.popData.req = e.req ∧ e.popData.clock = e.clock := by
  unfold Env.popData; split <;> simp

/-- A sample of REQ_IN moves nothing of the environment but its script and its counter. -/
theorem Env.popReq_frame (e : Env) :
    e.popReq.ms = e.ms ∧ e.popReq.data = e.data ∧ e.popReq.clock = e.clock := by
  unfold Env.popReq; split <;> simp

/-- The clock advances by the drawn amount, and nothing else of the inputs moves (R58). -/
theorem Env.popClock_frame (e : Env) :
    e.popClock.ms = e.ms + e.advance ∧ e.popClock.data = e.data ∧ e.popClock.req = e.req := by
  unfold Env.popClock Env.advance; split <;> simp

/-! ProtocolLink. -/

/-- What PL.CSASSERT does (R105). -/
theorem csAssert_eq : s.csAssert = { s with
    cs := false, shreg := 0, bitcnt := 0, plPhase := plHigh
    hist := s.hist ++ [.W .cs false, .S [(.shreg, 0)], .S [(.bitcnt, 0)], .S [(.plPhase, 1)]] } := by
  simp [State.csAssert, State.lineWrite, State.writeShreg, State.writeBitcnt, State.writePlPhase]

/-- What PL.CLKHI does (R106). -/
theorem clkHi_eq : s.clkHi = { s with
    clk := true, plPhase := plSample
    hist := s.hist ++ [.W .clk true, .D s.cfg.tSettleNs, .S [(.plPhase, 2)]] } := by
  simp [State.clkHi, State.lineWrite, State.delay, State.writePlPhase]

/-- What PL.SAMPLE does inside a frame (R107). -/
theorem sample_eq (h : s.bitcnt.toNat < 16) : s.sample = { s with
    shreg := setSampleBit s.shreg s.bitcnt.toNat s.dataBit
    plPhase := plLow
    env := s.env.popData
    hist := s.hist ++ [.R .data s.dataBit,
      .S [(.shreg, (setSampleBit s.shreg s.bitcnt.toNat s.dataBit).toNat)], .S [(.plPhase, 3)]] } := by
  simp [State.sample, State.storeSample, State.readData, State.writeShreg, State.writePlPhase, Config.rawBits, h]

/-- What PL.SAMPLE does where `15 - bitcnt` names no bit (log 10). -/
theorem sample_eq_of_le (h : 16 ≤ s.bitcnt.toNat) : s.sample = { s with
    shreg := Config.freeShreg s.env.popData.draws
    plPhase := plLow
    env := s.env.popData.popFree
    hist := s.hist ++ [.R .data s.dataBit,
      .S [(.shreg, (Config.freeShreg s.env.popData.draws).toNat)], .S [(.plPhase, 3)]] } := by
  simp [State.sample, State.storeSample, State.readData, State.takeFree, State.writeShreg, State.writePlPhase,
    Config.rawBits, Nat.not_lt.mpr h]

/-- What PL.CLKLO does while the sum fits the register (R108). -/
theorem clkLo_eq (h : s.bitcnt.toNat < 31) : s.clkLo = { s with
    clk := false
    bitcnt := s.bitcnt + 1
    plPhase := if s.bitcnt.toNat = 15 then plRelease else plHigh
    hist := s.hist ++ [.W .clk false, .D s.cfg.tSettleNs, .S [(.bitcnt, s.bitcnt.toNat + 1)],
      .S [(.plPhase, if s.bitcnt.toNat = 15 then 4 else 1)]] } := by
  have hn : (s.bitcnt + 1).toNat = s.bitcnt.toNat + 1 := by
    rw [BitVec.toNat_add]; simp; omega
  simp only [State.clkLo, State.countPulse, State.afterPulse, State.delay, State.lineWrite, h, if_true,
    State.writeBitcnt, State.writePlPhase, hn, Config.rawBits]
  by_cases h15 : s.bitcnt.toNat = 15 <;> simp [h15]

/-- What PL.CLKLO does where the sum does not fit the register (log 11). -/
theorem clkLo_eq_of_31 (h : s.bitcnt.toNat = 31) : s.clkLo = { s with
    clk := false
    bitcnt := Config.freeBitcnt s.env.draws
    plPhase := if (Config.freeBitcnt s.env.draws).toNat = 16 then plRelease else plHigh
    env := s.env.popFree
    hist := s.hist ++ [.W .clk false, .D s.cfg.tSettleNs, .S [(.bitcnt, (Config.freeBitcnt s.env.draws).toNat)],
      .S [(.plPhase, if (Config.freeBitcnt s.env.draws).toNat = 16 then 4 else 1)]] } := by
  simp only [State.clkLo, State.countPulse, State.afterPulse, State.delay, State.lineWrite, h, State.takeFree,
    State.writeBitcnt, State.writePlPhase, Config.rawBits]
  by_cases h16 : (Config.freeBitcnt s.env.draws).toNat = 16 <;> simp [h16]

/-- What PL.CSRELEASE does (R109). -/
theorem csRelease_eq : s.csRelease = { s with
    cs := true, plPhase := plIdle
    hist := s.hist ++ [.W .cs true, .S [(.plPhase, 0)]] } := by
  simp [State.csRelease, State.lineWrite, State.writePlPhase]

/-- What PL.BEGIN does (R101), its two line writes in either order (U7). -/
theorem begin_eq : s.begin = { s with
    csDir := .output, clkDir := .output, dataDir := .input
    cs := true, clk := false, plCfg := true
    env := s.env.popFree
    hist := s.hist ++ (if Config.freeBeginOrder s.env.draws then [.W .clk false, .W .cs true]
      else [.W .cs true, .W .clk false]) ++ [.S [(.plCfg, 1)]] } := by
  by_cases h : Config.freeBeginOrder s.env.draws = true <;>
    simp [State.begin, State.idleLines, State.configureLines, State.takeFree, State.lineWrite, State.writePlCfg, h]

/-- What one pulse does inside a frame (R93 (a)): the sum of its three micro-operations. -/
theorem pulse_eq (h : s.bitcnt.toNat < 16) : s.pulse = { s with
    clk := false
    shreg := setSampleBit s.shreg s.bitcnt.toNat s.dataBit
    bitcnt := s.bitcnt + 1
    plPhase := if s.bitcnt.toNat = 15 then plRelease else plHigh
    env := s.env.popData
    hist := s.hist ++ [.W .clk true, .D s.cfg.tSettleNs, .S [(.plPhase, 2)], .R .data s.dataBit,
      .S [(.shreg, (setSampleBit s.shreg s.bitcnt.toNat s.dataBit).toNat)], .S [(.plPhase, 3)],
      .W .clk false, .D s.cfg.tSettleNs, .S [(.bitcnt, s.bitcnt.toNat + 1)],
      .S [(.plPhase, if s.bitcnt.toNat = 15 then 4 else 1)]] } := by
  rw [State.pulse, clkHi_eq, sample_eq _ (by simpa using h), clkLo_eq _ (by simp; omega)]
  simp [State.dataBit]

theorem pulses_zero : State.pulses 0 s = s := rfl

theorem pulses_succ (n : Nat) : State.pulses (n + 1) s = State.pulses n s.pulse := rfl

/-! The decoder's results. -/

/-- What TD.ROUND does with a temperature (R134). -/
theorem roundReading_temp (q : Quarters) (h : s.reading = .temp q) :
    s.roundReading = { s with rounded := roundQuarters q.toNat } := by
  simp [State.roundReading, h]

/-- What TD.ROUND does where the reading holds no count (log 13). -/
theorem roundReading_fault (h : s.reading = .fault) :
    s.roundReading = { s with env := s.env.popFree, rounded := Config.freeRound s.env.draws } := by
  simp [State.roundReading, h, State.takeFree]

/-- The rounded count of a reading is at least 0 and at most 2048 (R134). -/
theorem roundQuarters_range (q : Quarters) : 0 ≤ roundQuarters q.toNat ∧ roundQuarters q.toNat ≤ 2048 := by
  have := q.isLt
  simp only [roundQuarters, Config.countsPerDegree]
  split <;> omega

/-- A clamped integer is in the range 0 to 500 (R135). -/
theorem clampDegrees_range (n : Int) : 0 ≤ clampDegrees n ∧ clampDegrees n ≤ 500 := by
  simp only [clampDegrees, Config.tMin, Config.tMax]
  split
  · omega
  · split <;> omega

/-- Nine bits hold the clamped integer (R28). -/
theorem clampedWord_toNat (n : Int) : ((clampedWord n).toNat : Int) = clampDegrees n := by
  have := clampDegrees_range n
  simp only [clampedWord, BitVec.toNat_ofInt]
  omega

/-- What the rest of a poll does on Fault (R155, R207). -/
theorem finishPoll_fault (h : decodeSample s.shreg = .fault) : s.finishPoll = { s with
    reading := .fault, notConnected := true, phase := phaseAct
    hist := s.hist ++ [.S [(.notConnected, 1)], .S [(.phase, 3)]] } := by
  simp [State.finishPoll, State.decodeRaw, State.serviceReading, h, State.takeSensorFault, State.writeNotConnected,
    State.writePhase]

/-- What the rest of a poll does on a temperature (R155). -/
theorem finishPoll_temp (q : Quarters) (h : decodeSample s.shreg = .temp q) : s.finishPoll = { s with
    reading := .temp q
    rounded := roundQuarters q.toNat
    clamped := clampedWord (roundQuarters q.toNat)
    currentTemperature := clampedWord (roundQuarters q.toNat)
    notConnected := false
    phase := phaseAct
    hist := s.hist ++ [.S [(.currentTemperature, (clampedWord (roundQuarters q.toNat)).toNat), (.notConnected, 0)],
      .S [(.phase, 3)]] } := by
  simp [State.finishPoll, State.decodeRaw, State.serviceReading, h, State.publish, State.roundReading,
    State.clampRounded, State.writeReport, State.writePhase]

/-! The actuator. -/

/-- What AD.PULSE does (R181). -/
theorem actPulse_eq : s.actPulse = { s with
    act := false
    hist := s.hist ++ [.W .act true, .D s.cfg.tPulseNs, .W .act false] } := by
  simp [State.actPulse, State.lineWrite, State.delay]

/-! ControlLoop. -/

/-- What the first three writes of CL.START do (R151). -/
theorem clearControl_eq : s.clearControl = { s with
    currentTemperature := 0, actuatorRequested := false, notConnected := false
    hist := s.hist ++ [.S [(.currentTemperature, 0)], .S [(.actuatorRequested, 0)], .S [(.notConnected, 0)]] } := by
  simp [State.clearControl, State.writeTemperature, State.writeRequested, State.writeNotConnected]

/-- What the timers' start does: one clock sample for both (R151, D11). -/
theorem startTimers_eq : s.startTimers = { s with
    lastSensor := s.clockNow, lastAct := s.clockNow, env := s.env.popClock
    hist := s.hist ++ [.T s.clockNow, .S [(.lastSensor, s.clockNow.toNat)], .S [(.lastAct, s.clockNow.toNat)]] } := by
  simp [State.startTimers, State.readClock, State.writeLastSensor, State.writeLastAct]

/-- What CL.ACT does on expiry without a request (R157). -/
theorem serviceActuator_idle (now : Ms) (h : s.actuatorRequested = false) :
    s.serviceActuator now = s.writeLastAct now := by
  simp [State.serviceActuator, h]

/-- What CL.ACT does on expiry with the request true (R157, R158). -/
theorem serviceActuator_pulse (now : Ms) (h : s.actuatorRequested = true) :
    s.serviceActuator now = (s.writeLastAct now).actPulse := by
  simp [State.serviceActuator, h]

/-! Outcomes. -/

@[simp] theorem onNext_next (t : State) (f : State → Host.Outcome State Fault Refusal) :
    onNext (.next t) f = f t := rfl

@[simp] theorem onNext_refused (r : Refusal) (f : State → Host.Outcome State Fault Refusal) :
    onNext (.refused r) f = .refused r := rfl

/-- A chain that ends in a next state went through one. -/
theorem onNext_eq_next {o : Host.Outcome State Fault Refusal} {f : State → Host.Outcome State Fault Refusal}
    {t : State} (h : onNext o f = .next t) : ∃ u, o = .next u ∧ f u = .next t := by
  cases o with
  | next u => exact ⟨u, rfl, h⟩
  | fault r => cases r
  | refused r => cases h

/-- PL.READRAW answers a next state exactly on configured lines, and then it is the transaction (R102). -/
theorem readRaw_eq_next {t : State} : s.readRaw = .next t ↔ s.plCfg = true ∧ t = s.transaction := by
  unfold State.readRaw
  by_cases h : s.plCfg = true <;> simp [h, eq_comm]

end Sys2Proof.Machine
end

