-- ==== Sys2Proof/Laws/Transaction.lean ====
section
/-! SUPPORT. The transaction as one equation: what it leaves in every field, in terms of the bits it samples. -/

namespace Sys2Proof.Machine

/-- The levels of DATA at the next `n` samples. -/
def Env.drawBits : Nat → Env → List Bool
  | 0, _ => []
  | n + 1, e => e.dataBit :: Env.drawBits n e.popData

/-- The environment after `n` samples of DATA. -/
def Env.popBits : Nat → Env → Env
  | 0, e => e
  | n + 1, e => Env.popBits n e.popData

/-- The accumulator after the bits have been stored from position `i` on. -/
def storeBits (i : Nat) (v : RawSample) : List Bool → RawSample
  | [] => v
  | d :: ds => storeBits (i + 1) (setSampleBit v i d) ds

/-- The events of the pulses that sample the bits, from count `i` and accumulator `v` on. -/
def pulseEvents (ts i : Nat) (v : RawSample) : List Bool → List Event
  | [] => []
  | d :: ds =>
    [.W .clk true, .D ts, .S [(.plPhase, 2)], .R .data d, .S [(.shreg, (setSampleBit v i d).toNat)],
      .S [(.plPhase, 3)], .W .clk false, .D ts, .S [(.bitcnt, i + 1)], .S [(.plPhase, if i = 15 then 4 else 1)]]
      ++ pulseEvents ts (i + 1) (setSampleBit v i d) ds

@[simp] theorem Env.drawBits_length (n : Nat) (e : Env) : (e.drawBits n).length = n := by
  induction n generalizing e with
  | zero => rfl
  | succ n ih => simp [Env.drawBits, ih]

/-- Samples of DATA move nothing of the environment but its script and its counter. -/
theorem Env.popBits_frame (n : Nat) (e : Env) :
    (e.popBits n).ms = e.ms ∧ (e.popBits n).req = e.req ∧ (e.popBits n).clock = e.clock := by
  induction n generalizing e with
  | zero => exact ⟨rfl, rfl, rfl⟩
  | succ n ih =>
    have h := Env.popData_frame e
    simpa [Env.popBits, h] using ih e.popData

/-- A scripted run of bits is drawn as it stands and leaves the rest of the script (R57). -/
theorem Env.drawBits_script (ds rest : List Bool) (e : Env) (h : e.data = ds ++ rest) :
    e.drawBits ds.length = ds ∧ e.popBits ds.length = { e with data := rest } := by
  induction ds generalizing e with
  | nil =>
    have h' : e.data = rest := h
    exact ⟨rfl, by simp only [List.length_nil, Env.popBits]; rw [← h']⟩
  | cons d ds ih =>
    obtain ⟨hd, hp⟩ := Env.popData_cons e d (ds ++ rest) h
    obtain ⟨h1, h2⟩ := ih { e with data := ds ++ rest } rfl
    simp [Env.drawBits, Env.popBits, hd, hp, h1, h2]

/-- What `n + 1` pulses do from a count that leaves room for them (R93 (a), R107, R108). -/
theorem pulses_eq (n : Nat) (s : State) (h : s.bitcnt.toNat + (n + 1) ≤ 16) :
    State.pulses (n + 1) s = { s with
      clk := false
      shreg := storeBits s.bitcnt.toNat s.shreg (s.env.drawBits (n + 1))
      bitcnt := BitVec.ofNat 5 (s.bitcnt.toNat + (n + 1))
      plPhase := if s.bitcnt.toNat + n = 15 then plRelease else plHigh
      env := s.env.popBits (n + 1)
      hist := s.hist ++ pulseEvents s.cfg.tSettleNs s.bitcnt.toNat s.shreg (s.env.drawBits (n + 1)) } := by
  have hone : ∀ u : State, u.bitcnt.toNat < 16 → u.bitcnt + 1 = BitVec.ofNat 5 (u.bitcnt.toNat + 1) := by
    intro u hu
    apply BitVec.eq_of_toNat_eq
    rw [BitVec.toNat_add, BitVec.toNat_ofNat]
    rfl
  induction n generalizing s with
  | zero =>
    rw [pulses_succ, pulses_zero, pulse_eq s (by omega), hone s (by omega)]
    simp [storeBits, Env.drawBits, Env.popBits, pulseEvents, State.dataBit]
  | succ n ih =>
    have hlt : s.bitcnt.toNat < 16 := by omega
    have hn : (s.bitcnt + 1).toNat = s.bitcnt.toNat + 1 := by
      rw [BitVec.toNat_add]; simp; omega
    have hb : s.pulse.bitcnt.toNat = s.bitcnt.toNat + 1 := by rw [pulse_eq s hlt]; exact hn
    rw [pulses_succ, ih s.pulse (by omega)]
    simp only [hb]
    rw [pulse_eq s hlt]
    have h1 : s.bitcnt.toNat + 1 + (n + 1) = s.bitcnt.toNat + (n + 1 + 1) := by omega
    have h2 : s.bitcnt.toNat + 1 + n = s.bitcnt.toNat + (n + 1) := by omega
    simp [storeBits, Env.drawBits, Env.popBits, pulseEvents, State.dataBit, h1, h2]

/-- The word that sixteen bits write into the accumulator. -/
def wordOf (ds : List Bool) : RawSample := storeBits 0 0 ds

/-- Every event of a transaction that samples the bits, register writes included. -/
def transactionEvents (ts : Nat) (ds : List Bool) : List Event :=
  [.W .cs false, .S [(.shreg, 0)], .S [(.bitcnt, 0)], .S [(.plPhase, 1)]] ++ pulseEvents ts 0 0 ds
    ++ [.W .cs true, .S [(.plPhase, 0)]]

/-- What a transaction does (R93 (a), R102, R111): the whole of it, as one equation. -/
theorem transaction_eq (s : State) : s.transaction = { s with
    cs := true, clk := false, plPhase := plIdle, bitcnt := 16
    shreg := wordOf (s.env.drawBits 16)
    env := s.env.popBits 16
    hist := s.hist ++ transactionEvents s.cfg.tSettleNs (s.env.drawBits 16) } := by
  unfold State.transaction
  rw [show Config.rawBits = 15 + 1 from rfl, pulses_eq 15 s.csAssert (by rw [csAssert_eq]; simp), csRelease_eq,
    csAssert_eq]
  simp [wordOf, transactionEvents]

end Sys2Proof.Machine
end

