-- ==== Sys2Proof/Laws/Fields.lean ====
section
/-! SUPPORT. One lemma per field for the shared operations built of several updates, each from the operation's one
equation, so that proofs read a field without opening the operation. -/

namespace Sys2Proof.Machine

variable (s : State)

/-! `csAssert` -/
@[simp] theorem csAssert_cfg : s.csAssert.cfg = s.cfg := by rw [csAssert_eq]
@[simp] theorem csAssert_phase : s.csAssert.phase = s.phase := by rw [csAssert_eq]
@[simp] theorem csAssert_plPhase : s.csAssert.plPhase = plHigh := by rw [csAssert_eq]
@[simp] theorem csAssert_plCfg : s.csAssert.plCfg = s.plCfg := by rw [csAssert_eq]
@[simp] theorem csAssert_csDir : s.csAssert.csDir = s.csDir := by rw [csAssert_eq]
@[simp] theorem csAssert_clkDir : s.csAssert.clkDir = s.clkDir := by rw [csAssert_eq]
@[simp] theorem csAssert_dataDir : s.csAssert.dataDir = s.dataDir := by rw [csAssert_eq]
@[simp] theorem csAssert_cs : s.csAssert.cs = false := by rw [csAssert_eq]
@[simp] theorem csAssert_clk : s.csAssert.clk = s.clk := by rw [csAssert_eq]
@[simp] theorem csAssert_act : s.csAssert.act = s.act := by rw [csAssert_eq]
@[simp] theorem csAssert_shreg : s.csAssert.shreg = 0 := by rw [csAssert_eq]
@[simp] theorem csAssert_bitcnt : s.csAssert.bitcnt = 0 := by rw [csAssert_eq]
@[simp] theorem csAssert_currentTemperature :
    s.csAssert.currentTemperature = s.currentTemperature := by
  rw [csAssert_eq]
@[simp] theorem csAssert_actuatorRequested : s.csAssert.actuatorRequested = s.actuatorRequested := by rw [csAssert_eq]
@[simp] theorem csAssert_notConnected : s.csAssert.notConnected = s.notConnected := by rw [csAssert_eq]
@[simp] theorem csAssert_lastSensor : s.csAssert.lastSensor = s.lastSensor := by rw [csAssert_eq]
@[simp] theorem csAssert_lastAct : s.csAssert.lastAct = s.lastAct := by rw [csAssert_eq]
@[simp] theorem csAssert_reading : s.csAssert.reading = s.reading := by rw [csAssert_eq]
@[simp] theorem csAssert_rounded : s.csAssert.rounded = s.rounded := by rw [csAssert_eq]
@[simp] theorem csAssert_clamped : s.csAssert.clamped = s.clamped := by rw [csAssert_eq]
@[simp] theorem csAssert_hist :
    s.csAssert.hist = s.hist ++ [.W .cs false, .S [(.shreg, 0)], .S [(.bitcnt, 0)], .S [(.plPhase, 1)]] := by
  rw [csAssert_eq]
@[simp] theorem csAssert_env : s.csAssert.env = s.env := by rw [csAssert_eq]
@[simp] theorem csAssert_bench : s.csAssert.bench = s.bench := by rw [csAssert_eq]

/-! `clkHi` -/
@[simp] theorem clkHi_cfg : s.clkHi.cfg = s.cfg := by rw [clkHi_eq]
@[simp] theorem clkHi_phase : s.clkHi.phase = s.phase := by rw [clkHi_eq]
@[simp] theorem clkHi_plPhase : s.clkHi.plPhase = plSample := by rw [clkHi_eq]
@[simp] theorem clkHi_plCfg : s.clkHi.plCfg = s.plCfg := by rw [clkHi_eq]
@[simp] theorem clkHi_csDir : s.clkHi.csDir = s.csDir := by rw [clkHi_eq]
@[simp] theorem clkHi_clkDir : s.clkHi.clkDir = s.clkDir := by rw [clkHi_eq]
@[simp] theorem clkHi_dataDir : s.clkHi.dataDir = s.dataDir := by rw [clkHi_eq]
@[simp] theorem clkHi_cs : s.clkHi.cs = s.cs := by rw [clkHi_eq]
@[simp] theorem clkHi_clk : s.clkHi.clk = true := by rw [clkHi_eq]
@[simp] theorem clkHi_act : s.clkHi.act = s.act := by rw [clkHi_eq]
@[simp] theorem clkHi_shreg : s.clkHi.shreg = s.shreg := by rw [clkHi_eq]
@[simp] theorem clkHi_bitcnt : s.clkHi.bitcnt = s.bitcnt := by rw [clkHi_eq]
@[simp] theorem clkHi_currentTemperature : s.clkHi.currentTemperature = s.currentTemperature := by rw [clkHi_eq]
@[simp] theorem clkHi_actuatorRequested : s.clkHi.actuatorRequested = s.actuatorRequested := by rw [clkHi_eq]
@[simp] theorem clkHi_notConnected : s.clkHi.notConnected = s.notConnected := by rw [clkHi_eq]
@[simp] theorem clkHi_lastSensor : s.clkHi.lastSensor = s.lastSensor := by rw [clkHi_eq]
@[simp] theorem clkHi_lastAct : s.clkHi.lastAct = s.lastAct := by rw [clkHi_eq]
@[simp] theorem clkHi_reading : s.clkHi.reading = s.reading := by rw [clkHi_eq]
@[simp] theorem clkHi_rounded : s.clkHi.rounded = s.rounded := by rw [clkHi_eq]
@[simp] theorem clkHi_clamped : s.clkHi.clamped = s.clamped := by rw [clkHi_eq]
@[simp] theorem clkHi_hist :
    s.clkHi.hist = s.hist ++ [.W .clk true, .D s.cfg.tSettleNs, .S [(.plPhase, 2)]] := by
  rw [clkHi_eq]
@[simp] theorem clkHi_env : s.clkHi.env = s.env := by rw [clkHi_eq]
@[simp] theorem clkHi_bench : s.clkHi.bench = s.bench := by rw [clkHi_eq]

/-! `csRelease` -/
@[simp] theorem csRelease_cfg : s.csRelease.cfg = s.cfg := by rw [csRelease_eq]
@[simp] theorem csRelease_phase : s.csRelease.phase = s.phase := by rw [csRelease_eq]
@[simp] theorem csRelease_plPhase : s.csRelease.plPhase = plIdle := by rw [csRelease_eq]
@[simp] theorem csRelease_plCfg : s.csRelease.plCfg = s.plCfg := by rw [csRelease_eq]
@[simp] theorem csRelease_csDir : s.csRelease.csDir = s.csDir := by rw [csRelease_eq]
@[simp] theorem csRelease_clkDir : s.csRelease.clkDir = s.clkDir := by rw [csRelease_eq]
@[simp] theorem csRelease_dataDir : s.csRelease.dataDir = s.dataDir := by rw [csRelease_eq]
@[simp] theorem csRelease_cs : s.csRelease.cs = true := by rw [csRelease_eq]
@[simp] theorem csRelease_clk : s.csRelease.clk = s.clk := by rw [csRelease_eq]
@[simp] theorem csRelease_act : s.csRelease.act = s.act := by rw [csRelease_eq]
@[simp] theorem csRelease_shreg : s.csRelease.shreg = s.shreg := by rw [csRelease_eq]
@[simp] theorem csRelease_bitcnt : s.csRelease.bitcnt = s.bitcnt := by rw [csRelease_eq]
@[simp] theorem csRelease_currentTemperature :
    s.csRelease.currentTemperature = s.currentTemperature := by
  rw [csRelease_eq]
@[simp] theorem csRelease_actuatorRequested :
    s.csRelease.actuatorRequested = s.actuatorRequested := by
  rw [csRelease_eq]
@[simp] theorem csRelease_notConnected : s.csRelease.notConnected = s.notConnected := by rw [csRelease_eq]
@[simp] theorem csRelease_lastSensor : s.csRelease.lastSensor = s.lastSensor := by rw [csRelease_eq]
@[simp] theorem csRelease_lastAct : s.csRelease.lastAct = s.lastAct := by rw [csRelease_eq]
@[simp] theorem csRelease_reading : s.csRelease.reading = s.reading := by rw [csRelease_eq]
@[simp] theorem csRelease_rounded : s.csRelease.rounded = s.rounded := by rw [csRelease_eq]
@[simp] theorem csRelease_clamped : s.csRelease.clamped = s.clamped := by rw [csRelease_eq]
@[simp] theorem csRelease_hist :
    s.csRelease.hist = s.hist ++ [.W .cs true, .S [(.plPhase, 0)]] := by
  rw [csRelease_eq]
@[simp] theorem csRelease_env : s.csRelease.env = s.env := by rw [csRelease_eq]
@[simp] theorem csRelease_bench : s.csRelease.bench = s.bench := by rw [csRelease_eq]

/-! `begin` -/
@[simp] theorem begin_cfg : s.begin.cfg = s.cfg := by rw [begin_eq]
@[simp] theorem begin_phase : s.begin.phase = s.phase := by rw [begin_eq]
@[simp] theorem begin_plPhase : s.begin.plPhase = s.plPhase := by rw [begin_eq]
@[simp] theorem begin_plCfg : s.begin.plCfg = true := by rw [begin_eq]
@[simp] theorem begin_csDir : s.begin.csDir = .output := by rw [begin_eq]
@[simp] theorem begin_clkDir : s.begin.clkDir = .output := by rw [begin_eq]
@[simp] theorem begin_dataDir : s.begin.dataDir = .input := by rw [begin_eq]
@[simp] theorem begin_cs : s.begin.cs = true := by rw [begin_eq]
@[simp] theorem begin_clk : s.begin.clk = false := by rw [begin_eq]
@[simp] theorem begin_act : s.begin.act = s.act := by rw [begin_eq]
@[simp] theorem begin_shreg : s.begin.shreg = s.shreg := by rw [begin_eq]
@[simp] theorem begin_bitcnt : s.begin.bitcnt = s.bitcnt := by rw [begin_eq]
@[simp] theorem begin_currentTemperature : s.begin.currentTemperature = s.currentTemperature := by rw [begin_eq]
@[simp] theorem begin_actuatorRequested : s.begin.actuatorRequested = s.actuatorRequested := by rw [begin_eq]
@[simp] theorem begin_notConnected : s.begin.notConnected = s.notConnected := by rw [begin_eq]
@[simp] theorem begin_lastSensor : s.begin.lastSensor = s.lastSensor := by rw [begin_eq]
@[simp] theorem begin_lastAct : s.begin.lastAct = s.lastAct := by rw [begin_eq]
@[simp] theorem begin_reading : s.begin.reading = s.reading := by rw [begin_eq]
@[simp] theorem begin_rounded : s.begin.rounded = s.rounded := by rw [begin_eq]
@[simp] theorem begin_clamped : s.begin.clamped = s.clamped := by rw [begin_eq]
@[simp] theorem begin_hist :
    s.begin.hist = s.hist ++ (if Config.freeBeginOrder s.env.draws then [.W .clk false, .W .cs true]
      else [.W .cs true, .W .clk false]) ++ [.S [(.plCfg, 1)]] := by
  rw [begin_eq]
@[simp] theorem begin_env : s.begin.env = s.env.popFree := by rw [begin_eq]
@[simp] theorem begin_bench : s.begin.bench = s.bench := by rw [begin_eq]

/-! `actPulse` -/
@[simp] theorem actPulse_cfg : s.actPulse.cfg = s.cfg := by rw [actPulse_eq]
@[simp] theorem actPulse_phase : s.actPulse.phase = s.phase := by rw [actPulse_eq]
@[simp] theorem actPulse_plPhase : s.actPulse.plPhase = s.plPhase := by rw [actPulse_eq]
@[simp] theorem actPulse_plCfg : s.actPulse.plCfg = s.plCfg := by rw [actPulse_eq]
@[simp] theorem actPulse_csDir : s.actPulse.csDir = s.csDir := by rw [actPulse_eq]
@[simp] theorem actPulse_clkDir : s.actPulse.clkDir = s.clkDir := by rw [actPulse_eq]
@[simp] theorem actPulse_dataDir : s.actPulse.dataDir = s.dataDir := by rw [actPulse_eq]
@[simp] theorem actPulse_cs : s.actPulse.cs = s.cs := by rw [actPulse_eq]
@[simp] theorem actPulse_clk : s.actPulse.clk = s.clk := by rw [actPulse_eq]
@[simp] theorem actPulse_act : s.actPulse.act = false := by rw [actPulse_eq]
@[simp] theorem actPulse_shreg : s.actPulse.shreg = s.shreg := by rw [actPulse_eq]
@[simp] theorem actPulse_bitcnt : s.actPulse.bitcnt = s.bitcnt := by rw [actPulse_eq]
@[simp] theorem actPulse_currentTemperature :
    s.actPulse.currentTemperature = s.currentTemperature := by
  rw [actPulse_eq]
@[simp] theorem actPulse_actuatorRequested : s.actPulse.actuatorRequested = s.actuatorRequested := by rw [actPulse_eq]
@[simp] theorem actPulse_notConnected : s.actPulse.notConnected = s.notConnected := by rw [actPulse_eq]
@[simp] theorem actPulse_lastSensor : s.actPulse.lastSensor = s.lastSensor := by rw [actPulse_eq]
@[simp] theorem actPulse_lastAct : s.actPulse.lastAct = s.lastAct := by rw [actPulse_eq]
@[simp] theorem actPulse_reading : s.actPulse.reading = s.reading := by rw [actPulse_eq]
@[simp] theorem actPulse_rounded : s.actPulse.rounded = s.rounded := by rw [actPulse_eq]
@[simp] theorem actPulse_clamped : s.actPulse.clamped = s.clamped := by rw [actPulse_eq]
@[simp] theorem actPulse_hist :
    s.actPulse.hist = s.hist ++ [.W .act true, .D s.cfg.tPulseNs, .W .act false] := by
  rw [actPulse_eq]
@[simp] theorem actPulse_env : s.actPulse.env = s.env := by rw [actPulse_eq]
@[simp] theorem actPulse_bench : s.actPulse.bench = s.bench := by rw [actPulse_eq]

/-! `transaction` -/
@[simp] theorem transaction_cfg : s.transaction.cfg = s.cfg := by rw [transaction_eq]
@[simp] theorem transaction_phase : s.transaction.phase = s.phase := by rw [transaction_eq]
@[simp] theorem transaction_plPhase : s.transaction.plPhase = plIdle := by rw [transaction_eq]
@[simp] theorem transaction_plCfg : s.transaction.plCfg = s.plCfg := by rw [transaction_eq]
@[simp] theorem transaction_csDir : s.transaction.csDir = s.csDir := by rw [transaction_eq]
@[simp] theorem transaction_clkDir : s.transaction.clkDir = s.clkDir := by rw [transaction_eq]
@[simp] theorem transaction_dataDir : s.transaction.dataDir = s.dataDir := by rw [transaction_eq]
@[simp] theorem transaction_cs : s.transaction.cs = true := by rw [transaction_eq]
@[simp] theorem transaction_clk : s.transaction.clk = false := by rw [transaction_eq]
@[simp] theorem transaction_act : s.transaction.act = s.act := by rw [transaction_eq]
@[simp] theorem transaction_shreg : s.transaction.shreg = wordOf (s.env.drawBits 16) := by rw [transaction_eq]
@[simp] theorem transaction_bitcnt : s.transaction.bitcnt = 16 := by rw [transaction_eq]
@[simp] theorem transaction_currentTemperature :
    s.transaction.currentTemperature = s.currentTemperature := by
  rw [transaction_eq]
@[simp] theorem transaction_actuatorRequested :
    s.transaction.actuatorRequested = s.actuatorRequested := by
  rw [transaction_eq]
@[simp] theorem transaction_notConnected : s.transaction.notConnected = s.notConnected := by rw [transaction_eq]
@[simp] theorem transaction_lastSensor : s.transaction.lastSensor = s.lastSensor := by rw [transaction_eq]
@[simp] theorem transaction_lastAct : s.transaction.lastAct = s.lastAct := by rw [transaction_eq]
@[simp] theorem transaction_reading : s.transaction.reading = s.reading := by rw [transaction_eq]
@[simp] theorem transaction_rounded : s.transaction.rounded = s.rounded := by rw [transaction_eq]
@[simp] theorem transaction_clamped : s.transaction.clamped = s.clamped := by rw [transaction_eq]
@[simp] theorem transaction_hist :
    s.transaction.hist = s.hist ++ transactionEvents s.cfg.tSettleNs (s.env.drawBits 16) := by
  rw [transaction_eq]
@[simp] theorem transaction_env : s.transaction.env = s.env.popBits 16 := by rw [transaction_eq]
@[simp] theorem transaction_bench : s.transaction.bench = s.bench := by rw [transaction_eq]

/-! `sample`: the fields that no count can make it change -/
@[simp] theorem sample_cfg : s.sample.cfg = s.cfg := by
  simp only [State.sample, State.storeSample]; split <;> simp
@[simp] theorem sample_phase : s.sample.phase = s.phase := by
  simp only [State.sample, State.storeSample]; split <;> simp
@[simp] theorem sample_plPhase : s.sample.plPhase = plLow := rfl
@[simp] theorem sample_plCfg : s.sample.plCfg = s.plCfg := by
  simp only [State.sample, State.storeSample]; split <;> simp
@[simp] theorem sample_csDir : s.sample.csDir = s.csDir := by
  simp only [State.sample, State.storeSample]; split <;> simp
@[simp] theorem sample_clkDir : s.sample.clkDir = s.clkDir := by
  simp only [State.sample, State.storeSample]; split <;> simp
@[simp] theorem sample_dataDir : s.sample.dataDir = s.dataDir := by
  simp only [State.sample, State.storeSample]; split <;> simp
@[simp] theorem sample_cs : s.sample.cs = s.cs := by
  simp only [State.sample, State.storeSample]; split <;> simp
@[simp] theorem sample_clk : s.sample.clk = s.clk := by
  simp only [State.sample, State.storeSample]; split <;> simp
@[simp] theorem sample_act : s.sample.act = s.act := by
  simp only [State.sample, State.storeSample]; split <;> simp
@[simp] theorem sample_bitcnt : s.sample.bitcnt = s.bitcnt := by
  simp only [State.sample, State.storeSample]; split <;> simp
@[simp] theorem sample_currentTemperature : s.sample.currentTemperature = s.currentTemperature := by
  simp only [State.sample, State.storeSample]; split <;> simp
@[simp] theorem sample_actuatorRequested : s.sample.actuatorRequested = s.actuatorRequested := by
  simp only [State.sample, State.storeSample]; split <;> simp
@[simp] theorem sample_notConnected : s.sample.notConnected = s.notConnected := by
  simp only [State.sample, State.storeSample]; split <;> simp
@[simp] theorem sample_lastSensor : s.sample.lastSensor = s.lastSensor := by
  simp only [State.sample, State.storeSample]; split <;> simp
@[simp] theorem sample_lastAct : s.sample.lastAct = s.lastAct := by
  simp only [State.sample, State.storeSample]; split <;> simp
@[simp] theorem sample_reading : s.sample.reading = s.reading := by
  simp only [State.sample, State.storeSample]; split <;> simp
@[simp] theorem sample_rounded : s.sample.rounded = s.rounded := by
  simp only [State.sample, State.storeSample]; split <;> simp
@[simp] theorem sample_clamped : s.sample.clamped = s.clamped := by
  simp only [State.sample, State.storeSample]; split <;> simp
@[simp] theorem sample_bench : s.sample.bench = s.bench := by
  simp only [State.sample, State.storeSample]; split <;> simp

/-! `clkLo`: the fields that no count can make it change -/
@[simp] theorem clkLo_cfg : s.clkLo.cfg = s.cfg := by
  simp only [State.clkLo, State.afterPulse, State.countPulse]; split <;> simp
@[simp] theorem clkLo_phase : s.clkLo.phase = s.phase := by
  simp only [State.clkLo, State.afterPulse, State.countPulse]; split <;> simp
@[simp] theorem clkLo_plCfg : s.clkLo.plCfg = s.plCfg := by
  simp only [State.clkLo, State.afterPulse, State.countPulse]; split <;> simp
@[simp] theorem clkLo_csDir : s.clkLo.csDir = s.csDir := by
  simp only [State.clkLo, State.afterPulse, State.countPulse]; split <;> simp
@[simp] theorem clkLo_clkDir : s.clkLo.clkDir = s.clkDir := by
  simp only [State.clkLo, State.afterPulse, State.countPulse]; split <;> simp
@[simp] theorem clkLo_dataDir : s.clkLo.dataDir = s.dataDir := by
  simp only [State.clkLo, State.afterPulse, State.countPulse]; split <;> simp
@[simp] theorem clkLo_cs : s.clkLo.cs = s.cs := by
  simp only [State.clkLo, State.afterPulse, State.countPulse]; split <;> simp
@[simp] theorem clkLo_clk : s.clkLo.clk = false := by
  simp only [State.clkLo, State.afterPulse, State.countPulse]; split <;> simp
@[simp] theorem clkLo_act : s.clkLo.act = s.act := by
  simp only [State.clkLo, State.afterPulse, State.countPulse]; split <;> simp
@[simp] theorem clkLo_shreg : s.clkLo.shreg = s.shreg := by
  simp only [State.clkLo, State.afterPulse, State.countPulse]; split <;> simp
@[simp] theorem clkLo_currentTemperature : s.clkLo.currentTemperature = s.currentTemperature := by
  simp only [State.clkLo, State.afterPulse, State.countPulse]; split <;> simp
@[simp] theorem clkLo_actuatorRequested : s.clkLo.actuatorRequested = s.actuatorRequested := by
  simp only [State.clkLo, State.afterPulse, State.countPulse]; split <;> simp
@[simp] theorem clkLo_notConnected : s.clkLo.notConnected = s.notConnected := by
  simp only [State.clkLo, State.afterPulse, State.countPulse]; split <;> simp
@[simp] theorem clkLo_lastSensor : s.clkLo.lastSensor = s.lastSensor := by
  simp only [State.clkLo, State.afterPulse, State.countPulse]; split <;> simp
@[simp] theorem clkLo_lastAct : s.clkLo.lastAct = s.lastAct := by
  simp only [State.clkLo, State.afterPulse, State.countPulse]; split <;> simp
@[simp] theorem clkLo_reading : s.clkLo.reading = s.reading := by
  simp only [State.clkLo, State.afterPulse, State.countPulse]; split <;> simp
@[simp] theorem clkLo_rounded : s.clkLo.rounded = s.rounded := by
  simp only [State.clkLo, State.afterPulse, State.countPulse]; split <;> simp
@[simp] theorem clkLo_clamped : s.clkLo.clamped = s.clamped := by
  simp only [State.clkLo, State.afterPulse, State.countPulse]; split <;> simp
@[simp] theorem clkLo_bench : s.clkLo.bench = s.bench := by
  simp only [State.clkLo, State.afterPulse, State.countPulse]; split <;> simp

/-! `finishPoll`: the fields that neither outcome changes -/
@[simp] theorem finishPoll_cfg : s.finishPoll.cfg = s.cfg := by
  cases h : decodeSample s.shreg with
  | fault => rw [finishPoll_fault s h]
  | temp q => rw [finishPoll_temp s q h]
@[simp] theorem finishPoll_phase : s.finishPoll.phase = phaseAct := by
  cases h : decodeSample s.shreg with
  | fault => rw [finishPoll_fault s h]
  | temp q => rw [finishPoll_temp s q h]
@[simp] theorem finishPoll_plPhase : s.finishPoll.plPhase = s.plPhase := by
  cases h : decodeSample s.shreg with
  | fault => rw [finishPoll_fault s h]
  | temp q => rw [finishPoll_temp s q h]
@[simp] theorem finishPoll_plCfg : s.finishPoll.plCfg = s.plCfg := by
  cases h : decodeSample s.shreg with
  | fault => rw [finishPoll_fault s h]
  | temp q => rw [finishPoll_temp s q h]
@[simp] theorem finishPoll_csDir : s.finishPoll.csDir = s.csDir := by
  cases h : decodeSample s.shreg with
  | fault => rw [finishPoll_fault s h]
  | temp q => rw [finishPoll_temp s q h]
@[simp] theorem finishPoll_clkDir : s.finishPoll.clkDir = s.clkDir := by
  cases h : decodeSample s.shreg with
  | fault => rw [finishPoll_fault s h]
  | temp q => rw [finishPoll_temp s q h]
@[simp] theorem finishPoll_dataDir : s.finishPoll.dataDir = s.dataDir := by
  cases h : decodeSample s.shreg with
  | fault => rw [finishPoll_fault s h]
  | temp q => rw [finishPoll_temp s q h]
@[simp] theorem finishPoll_cs : s.finishPoll.cs = s.cs := by
  cases h : decodeSample s.shreg with
  | fault => rw [finishPoll_fault s h]
  | temp q => rw [finishPoll_temp s q h]
@[simp] theorem finishPoll_clk : s.finishPoll.clk = s.clk := by
  cases h : decodeSample s.shreg with
  | fault => rw [finishPoll_fault s h]
  | temp q => rw [finishPoll_temp s q h]
@[simp] theorem finishPoll_act : s.finishPoll.act = s.act := by
  cases h : decodeSample s.shreg with
  | fault => rw [finishPoll_fault s h]
  | temp q => rw [finishPoll_temp s q h]
@[simp] theorem finishPoll_shreg : s.finishPoll.shreg = s.shreg := by
  cases h : decodeSample s.shreg with
  | fault => rw [finishPoll_fault s h]
  | temp q => rw [finishPoll_temp s q h]
@[simp] theorem finishPoll_bitcnt : s.finishPoll.bitcnt = s.bitcnt := by
  cases h : decodeSample s.shreg with
  | fault => rw [finishPoll_fault s h]
  | temp q => rw [finishPoll_temp s q h]
@[simp] theorem finishPoll_actuatorRequested : s.finishPoll.actuatorRequested = s.actuatorRequested := by
  cases h : decodeSample s.shreg with
  | fault => rw [finishPoll_fault s h]
  | temp q => rw [finishPoll_temp s q h]
@[simp] theorem finishPoll_lastSensor : s.finishPoll.lastSensor = s.lastSensor := by
  cases h : decodeSample s.shreg with
  | fault => rw [finishPoll_fault s h]
  | temp q => rw [finishPoll_temp s q h]
@[simp] theorem finishPoll_lastAct : s.finishPoll.lastAct = s.lastAct := by
  cases h : decodeSample s.shreg with
  | fault => rw [finishPoll_fault s h]
  | temp q => rw [finishPoll_temp s q h]
@[simp] theorem finishPoll_env : s.finishPoll.env = s.env := by
  cases h : decodeSample s.shreg with
  | fault => rw [finishPoll_fault s h]
  | temp q => rw [finishPoll_temp s q h]
@[simp] theorem finishPoll_bench : s.finishPoll.bench = s.bench := by
  cases h : decodeSample s.shreg with
  | fault => rw [finishPoll_fault s h]
  | temp q => rw [finishPoll_temp s q h]

/-- The rest of a poll shows as the flag alone, or as the temperature and the cleared flag (R155). -/
theorem finishPoll_report :
    (s.finishPoll.notConnected = true ∧ s.finishPoll.currentTemperature = s.currentTemperature ∧
      s.finishPoll.hist = s.hist ++ [.S [(.notConnected, 1)], .S [(.phase, 3)]]) ∨
    (∃ c : Degrees, c.toNat ≤ 500 ∧ s.finishPoll.notConnected = false ∧ s.finishPoll.currentTemperature = c ∧
      s.finishPoll.hist = s.hist ++ [.S [(.currentTemperature, c.toNat), (.notConnected, 0)], .S [(.phase, 3)]]) := by
  cases h : decodeSample s.shreg with
  | fault => rw [finishPoll_fault s h]; exact .inl ⟨rfl, rfl, rfl⟩
  | temp q =>
    rw [finishPoll_temp s q h]
    have h1 := clampedWord_toNat (roundQuarters q.toNat)
    have h2 := clampDegrees_range (roundQuarters q.toNat)
    exact .inr ⟨clampedWord (roundQuarters q.toNat), by omega, rfl, rfl, rfl⟩

end Sys2Proof.Machine
end

