-- ==== Sys2Proof/Laws/PerInstr.lean ====
section
/-! SUPPORT. Families of facts about every operation as syntax, one lemma per constructor. -/

/-- The code word of an operation is a legal word of its own format: four bits, or sixteen for a data word (R91). -/
def Sys2Proof.Laws.EncodedForm.Statement (i : Sys2Proof.Instr) : Prop :=
  (Sys2Proof.encode i).wf = true ∧
    ((Sys2Proof.encode i).nbits = 16 ↔ ∃ q sr, i = .rawFault q sr ∨ i = .rawTemp q sr)

namespace Sys2Proof.Laws.EncodedForm

open Sys2Proof

theorem clStart : Statement .clStart := by simp [Statement, encode, CodeWord.wf]
theorem clInput : Statement .clInput := by simp [Statement, encode, CodeWord.wf]
theorem clSensor : Statement .clSensor := by simp [Statement, encode, CodeWord.wf]
theorem clAct : Statement .clAct := by simp [Statement, encode, CodeWord.wf]
theorem clIdle : Statement .clIdle := by simp [Statement, encode, CodeWord.wf]
theorem plBegin : Statement .plBegin := by simp [Statement, encode, CodeWord.wf]
theorem plReadraw : Statement .plReadraw := by simp [Statement, encode, CodeWord.wf]
theorem tdDecode : Statement .tdDecode := by simp [Statement, encode, CodeWord.wf]
theorem plCsassert : Statement .plCsassert := by simp [Statement, encode, CodeWord.wf]
theorem plClkhi : Statement .plClkhi := by simp [Statement, encode, CodeWord.wf]
theorem plSample : Statement .plSample := by simp [Statement, encode, CodeWord.wf]
theorem plClklo : Statement .plClklo := by simp [Statement, encode, CodeWord.wf]
theorem plCsrelease : Statement .plCsrelease := by simp [Statement, encode, CodeWord.wf]
theorem tdRound : Statement .tdRound := by simp [Statement, encode, CodeWord.wf]
theorem tdClamp : Statement .tdClamp := by simp [Statement, encode, CodeWord.wf]
theorem adPulse : Statement .adPulse := by simp [Statement, encode, CodeWord.wf]

/-- A RAW16 word fits sixteen bits (R80). -/
theorem rawWord_lt (q : Quarters) (oc : Bool) (sr : BitVec 2) : rawWord q oc sr < 2 ^ 16 := by
  have hq := q.isLt
  have hs := sr.isLt
  cases oc <;> simp [rawWord] <;> omega

theorem rawFault (q : Quarters) (sr : BitVec 2) : Statement (.rawFault q sr) := by
  have h := rawWord_lt q true sr
  exact ⟨decide_eq_true h, by simp [encode]⟩

theorem rawTemp (q : Quarters) (sr : BitVec 2) : Statement (.rawTemp q sr) := by
  have h := rawWord_lt q false sr
  exact ⟨decide_eq_true h, by simp [encode]⟩

end Sys2Proof.Laws.EncodedForm
end

