-- ==== Sys2Proof/Laws/Step.lean ====
section
/-! SUPPORT. What an operation and a step can answer, said once. -/

namespace Sys2Proof.Machine

variable {s t : State}

/-- The only operations that can be refused are PL.READRAW and CL.SENSOR, and only on unconfigured lines (R103). -/
theorem exec_refused {i : Instr} {r : Refusal} (h : exec i s = .refused r) :
    (i = .plReadraw ∨ i = .clSensor) ∧ s.plCfg = false ∧ r = .linesNotConfigured := by
  cases i <;> try cases h
  · simp only [exec, execClSensor] at h
    split at h
    · by_cases hc : s.plCfg = true
      · simp [State.readRaw, hc] at h
      · simp [State.readRaw, hc] at h
        exact ⟨.inr rfl, by simpa using hc, h.symm⟩
    · cases h
  · simp only [exec, execPlReadraw, State.readRaw] at h
    split at h
    · cases h
    · rename_i hc
      cases h
      exact ⟨.inl rfl, by simpa using hc, rfl⟩

/-- The two ways CL.SENSOR answers a next state (R153). -/
theorem execClSensor_next (h : execClSensor s = .next t) :
    (expired s.clockNow s.lastSensor s.cfg.sensorPeriodMs = true ∧ s.plCfg = true ∧
      t = (s.readClock.writeLastSensor s.clockNow).transaction.finishPoll) ∨
    (expired s.clockNow s.lastSensor s.cfg.sensorPeriodMs = false ∧ t = s.readClock.writePhase phaseAct) := by
  unfold execClSensor at h
  split at h
  · rename_i he
    obtain ⟨u, hu, ht⟩ := onNext_eq_next h
    obtain ⟨hc, rfl⟩ := (readRaw_eq_next _).1 hu
    cases ht
    exact .inl ⟨he, by simpa using hc, rfl⟩
  · rename_i he
    cases h
    exact .inr ⟨by simpa using he, rfl⟩

/-- Every way a step answers a next state: a test bench's word, a micro-operation with or without a return into
CL.SENSOR, or a phase (log 7, log 9). -/
theorem step_next (h : step s = .next t) :
    s.cfg.wf = true ∧ s.phase.toNat ≤ 4 ∧ s.plPhase.toNat ≤ 4 ∧
    ((∃ c rest i, s.bench = c :: rest ∧ decode c = .ok i ∧ exec i { s with bench := rest } = .next t) ∨
     (s.bench = [] ∧ ∃ i, microOp s.plPhase = some i ∧
        ((s.plPhase = plRelease ∧ s.phase = phaseSensor ∧ ∃ u, exec i s = .next u ∧ t = u.finishPoll) ∨
         (¬ (s.plPhase = plRelease ∧ s.phase = phaseSensor) ∧ exec i s = .next t))) ∨
     (s.bench = [] ∧ microOp s.plPhase = none ∧ ∃ i, phaseOp s.phase = some i ∧ exec i s = .next t)) := by
  unfold step State.fetch at h
  by_cases hw : s.cfg.wf = false
  · simp [hw] at h
  by_cases hp : 4 < s.phase.toNat
  · simp [hw, hp] at h
  by_cases hq : 4 < s.plPhase.toNat
  · simp [hw, hp, hq] at h
  refine ⟨by simpa using hw, by omega, by omega, ?_⟩
  simp only [hw, hp, hq, if_false] at h
  cases hb : s.bench with
  | cons c rest =>
    simp only [hb] at h
    cases hd : decode c with
    | error e => simp [hd] at h
    | ok i => exact .inl ⟨c, rest, i, rfl, hd, by simpa [hd, afterExec] using h⟩
  | nil =>
    simp only [hb, State.sequence] at h
    cases hm : microOp s.plPhase with
    | some i =>
      refine .inr (.inl ⟨rfl, i, rfl, ?_⟩)
      simp only [hm] at h
      by_cases hr : s.plPhase = plRelease ∧ s.phase = phaseSensor
      · simp only [hr, decide_true, afterExec, and_self] at h
        obtain ⟨u, hu, ht⟩ := onNext_eq_next h
        cases ht
        exact .inl ⟨hr.1, hr.2, u, hu, rfl⟩
      · rw [decide_eq_false hr] at h
        exact .inr ⟨hr, by simpa [afterExec] using h⟩
    | none =>
      simp only [hm] at h
      cases hf : phaseOp s.phase with
      | none => simp [hf] at h
      | some i => exact .inr (.inr ⟨rfl, rfl, i, rfl, by simpa [hf, afterExec] using h⟩)

end Sys2Proof.Machine
end

