-- ==== Sys2Proof/Tests/Slice0.lean ====
section
/-! SUPPORT. Tests. Expected values come from spec/95_test_vectors.md, the encodings of spec/30_encoding.md, or hand
calculation from the rule each test names; none comes from running the model. The second half shows, for each
statement with hypotheses, states and operands that meet them all, at the boundaries of each clause. -/

namespace Sys2Proof.Tests

open Sys2Proof Sys2Proof.Machine

/-! ## Small states -/

/-- The state that an operation leaves, where it leaves one. -/
def nextOf : Host.Outcome State Fault Refusal → Option State
  | .next t => some t
  | _ => none

/-- One observation of the state that an operation leaves. -/
def after {α : Type} (i : Instr) (s : State) (f : State → α) : Option α := (nextOf (exec i s)).map f

/-- A booted block in a phase, with a short history that configures the lines. -/
def booted (p : SeqCode) : State :=
  { State.reset with
    phase := p, plCfg := true, csDir := .output, clkDir := .output, dataDir := .input, cs := true
    hist := [.W .act false, .W .cs true, .W .clk false] }

/-- The booted block whose next clock sample is `now`. -/
def atTime (p : SeqCode) (now : Nat) : State := { booted p with env := { State.reset.env with clock := [now] } }

/-- The block in a frame, at a position and a count. -/
def inFrame (p : SeqCode) (n : BitVec 5) : State := { booted 2 with cs := false, plPhase := p, bitcnt := n }

/-! ## WellFormed: an ill-formed term for each check, refused -/

theorem test_wf_code_length : (CodeWord.mk 8 0).wf = false := by decide
theorem test_wf_code_opsel_width : (CodeWord.mk 4 16).wf = false := by decide
theorem test_wf_code_raw16_width : (CodeWord.mk 16 65536).wf = false := by decide
theorem test_wf_code_good : (CodeWord.mk 4 15).wf = true ∧ (CodeWord.mk 16 65535).wf = true := by decide
theorem test_wf_sensor_period_zero : ({ Params.default with sensorPeriodMs := 0 }).wf = false := by decide
theorem test_wf_sensor_period_clock : ({ Params.default with sensorPeriodMs := 2 ^ 32 }).wf = false := by decide
theorem test_wf_act_period_zero : ({ Params.default with actPeriodMs := 0 }).wf = false := by decide
theorem test_wf_act_period_clock : ({ Params.default with actPeriodMs := 2 ^ 32 }).wf = false := by decide
theorem test_wf_settle : ({ Params.default with tSettleNs := 999 }).wf = false := by decide
theorem test_wf_idle_zero : ({ Params.default with tIdleNs := 0 }).wf = false := by decide
theorem test_wf_idle_long : ({ Params.default with tIdleNs := 50000000 }).wf = false := by decide
theorem test_wf_pulse_zero : ({ Params.default with tPulseNs := 0 }).wf = false := by decide
theorem test_wf_pulse_long : ({ Params.default with tPulseNs := 50000000 }).wf = false := by decide
theorem test_wf_params_good : Params.default.wf = true := by decide

/-! ## Decoding: the words of R84 and R80, bit by bit -/

theorem test_decode_clStart : decodeTableWord 8 0b00000000 = some .clStart := by decide
theorem test_decode_clInput : decodeTableWord 8 0b00000001 = some .clInput := by decide
theorem test_decode_clSensor : decodeTableWord 8 0b00000010 = some .clSensor := by decide
theorem test_decode_clAct : decodeTableWord 8 0b00000011 = some .clAct := by decide
theorem test_decode_clIdle : decodeTableWord 8 0b00000100 = some .clIdle := by decide
theorem test_decode_plBegin : decodeTableWord 8 0b00000101 = some .plBegin := by decide
theorem test_decode_plReadraw : decodeTableWord 8 0b00000110 = some .plReadraw := by decide
theorem test_decode_tdDecode : decodeTableWord 8 0b00000111 = some .tdDecode := by decide
theorem test_decode_plCsassert : decodeTableWord 8 0b00001000 = some .plCsassert := by decide
theorem test_decode_plClkhi : decodeTableWord 8 0b00001001 = some .plClkhi := by decide
theorem test_decode_plSample : decodeTableWord 8 0b00001010 = some .plSample := by decide
theorem test_decode_plClklo : decodeTableWord 8 0b00001011 = some .plClklo := by decide
theorem test_decode_plCsrelease : decodeTableWord 8 0b00001100 = some .plCsrelease := by decide
theorem test_decode_tdRound : decodeTableWord 8 0b00001101 = some .tdRound := by decide
theorem test_decode_tdClamp : decodeTableWord 8 0b00001110 = some .tdClamp := by decide
theorem test_decode_adPulse : decodeTableWord 8 0b00001111 = some .adPulse := by decide
/-- 0x0194 of 95 part 2.2: the bits of 0x0190 with bit 2 set. -/
theorem test_decode_rawFault : decodeTableWord 16 0b0000000110010100 = some (.rawFault 50 0) := by decide
/-- 0x8000 of 95 part 2.2, with `sr` = 01: bit 15 is data. -/
theorem test_decode_rawTemp : decodeTableWord 16 0b1000000000000001 = some (.rawTemp 4096 1) := by decide
theorem test_decode_too_wide : decode ⟨4, 16⟩ = .error .tooWide := by rfl
theorem test_decode_no_format : decode ⟨8, 0⟩ = .error .noSuchFormat := by rfl

/-! ## ControlLoop (95 part 2.6 and 2.5) -/

/-- CL.START with NOW = 7, whichever order `begin()` takes. -/
theorem test_clStart :
    after .clStart { State.reset with act := true, env := { State.reset.env with clock := [7] } }
      (fun t => (t.lastSensor, t.lastAct, t.phase, t.act, t.cs, t.clk, t.plCfg)) =
      some (7, 7, 1, false, true, false, true) := by
  simp [after, nextOf, exec, execClStart, State.startTimers, State.clearControl, State.clockNow, Env.popClock]
  decide

theorem test_clInput_one :
    after .clInput { booted 1 with env := { State.reset.env with req := [true] } }
      (fun t => (t.actuatorRequested, t.phase, t.hist.getLast?)) =
      some (true, 2, some (.S [(.phase, 2)])) := by decide

theorem test_clInput_zero :
    after .clInput { booted 1 with actuatorRequested := true, env := { State.reset.env with req := [false] } }
      (fun t => (t.actuatorRequested, lineEvents (t.hist.drop 3))) =
      some (false, [.R .req false]) := by decide

set_option maxRecDepth 100000 in
theorem test_clSensor_good_poll :
    after .clSensor { booted 2 with
        lastSensor := 7, notConnected := true
        env := { State.reset.env with ms := 500, clock := [507], data := wordBits 0x0190 } }
      (fun t => (t.lastSensor, t.currentTemperature, t.notConnected, t.shreg, t.phase,
        (lineEvents t.hist).length)) =
      some (1007, 13, false, 0x0190, 3, 3 + 83) := by decide

set_option maxRecDepth 100000 in
theorem test_clSensor_fault_poll :
    after .clSensor { booted 2 with
        lastSensor := 1007, currentTemperature := 13
        env := { State.reset.env with clock := [2007], data := wordBits 0x0194 } }
      (fun t => (t.lastSensor, t.currentTemperature, t.notConnected, t.phase)) =
      some (2007, 13, true, 3) := by decide

theorem test_clAct_not_yet :
    after .clAct { atTime 3 56 with lastAct := 7, actuatorRequested := true }
      (fun t => (t.lastAct, t.phase, lineEvents (t.hist.drop 3))) = some (7, 4, [.T 56]) := by decide

theorem test_clAct_pulse :
    after .clAct { atTime 3 57 with lastAct := 7, actuatorRequested := true }
      (fun t => (t.lastAct, t.act, lineEvents (t.hist.drop 3))) =
      some (57, false, [.T 57, .W .act true, .D 1000000, .W .act false]) := by decide

theorem test_clIdle :
    after .clIdle (booted 4) (fun t => (t.phase, lineEvents (t.hist.drop 3))) = some (1, [.D 5000000]) := by decide

/-- The timer test at and below the period, and across the wrap (95 part 2.5). -/
theorem test_timer :
    expired 1006 7 1000 = false ∧ expired 1007 7 1000 = true ∧ expired 0x10 0xFFFFFFF0 50 = false ∧
    expired 0x22 0xFFFFFFF0 50 = true ∧ expired 0x2E7 0xFFFFFF00 1000 = false ∧
    expired 0x2E8 0xFFFFFF00 1000 = true := by decide

/-! ## ProtocolLink (95 part 2.1) -/

set_option maxRecDepth 100000 in
theorem test_plReadraw_word :
    after .plReadraw { booted 1 with env := { State.reset.env with data := wordBits 0x3E70 } }
      (fun t => (t.shreg, t.cs, t.clk, t.bitcnt, t.plPhase)) = some (0x3E70, true, false, 16, 0) := by decide

set_option maxRecDepth 100000 in
/-- The first sample lands in bit 15. -/
theorem test_plReadraw_first_bit :
    after .plReadraw { booted 1 with
        env := { State.reset.env with data := true :: List.replicate 15 false } } (·.shreg) = some 0x8000 := by decide

theorem test_plCsassert :
    after .plCsassert { booted 2 with shreg := 0xFFFF, bitcnt := 16 }
      (fun t => (t.cs, t.shreg, t.bitcnt, t.plPhase)) = some (false, 0, 0, 1) := by decide

theorem test_plClkhi :
    after .plClkhi (inFrame 1 0) (fun t => (t.clk, t.bitcnt, t.plPhase)) = some (true, 0, 2) := by decide

/-- Step 8 of the table of micro-operations. -/
theorem test_plSample_third :
    after .plSample { inFrame 2 2 with
        clk := true, shreg := 0x8000, env := { State.reset.env with data := [true] } }
      (fun t => (t.shreg, t.bitcnt, t.plPhase)) = some (0xA000, 2, 3) := by decide

/-- A low sample clears the bit it lands in (R107). -/
theorem test_plSample_low :
    after .plSample { inFrame 2 15 with shreg := 0xFFFF, env := { State.reset.env with data := [false] } }
      (·.shreg) = some 0xFFFE := by decide

theorem test_plClklo_first :
    after .plClklo { inFrame 3 0 with clk := true } (fun t => (t.clk, t.bitcnt, t.plPhase)) =
      some (false, 1, 1) := by decide

theorem test_plClklo_last :
    after .plClklo { inFrame 3 15 with clk := true } (fun t => (t.bitcnt, t.plPhase)) = some (16, 4) := by decide

theorem test_plCsrelease :
    after .plCsrelease { inFrame 4 16 with shreg := 0x0190 } (fun t => (t.cs, t.plPhase, t.shreg)) =
      some (true, 0, 0x0190) := by decide

theorem test_plBegin :
    after .plBegin { State.reset with clk := true } (fun t => (t.plCfg, t.cs, t.clk, t.csDir, t.dataDir)) =
      some (true, true, false, .output, .input) := by
  simp [after, nextOf, exec, execPlBegin]

theorem test_plReadraw_unconfigured : exec .plReadraw State.reset = .refused .linesNotConfigured := rfl

/-! ## TemperatureDecoder, rounding and clamping (95 parts 2.2 to 2.4, S1 to S4) -/

theorem test_tdDecode_temp :
    after .tdDecode { booted 1 with shreg := 0xFFFB } (·.reading) = some (.temp 8191) := by decide
theorem test_tdDecode_fault :
    after .tdDecode { booted 1 with shreg := 0x0007 } (·.reading) = some .fault := by decide
theorem test_tdRound_tie :
    after .tdRound { booted 1 with reading := .temp 10 } (·.rounded) = some 3 := by decide
theorem test_tdRound_largest :
    after .tdRound { booted 1 with reading := .temp 8191 } (·.rounded) = some 2048 := by decide
/-- -5.0, -0.5 and -0.25 degrees. -/
theorem test_round_negative : roundQuarters (-20) = -5 ∧ roundQuarters (-2) = -1 ∧ roundQuarters (-1) = 0 := by decide
theorem test_tdClamp_low : after .tdClamp { booted 1 with rounded := -5 } (·.clamped) = some 0 := by decide
theorem test_tdClamp_high : after .tdClamp { booted 1 with rounded := 501 } (·.clamped) = some 500 := by decide
theorem test_rawFault : after (.rawFault 0x0032 3) (booted 1) (·.reading) = some .fault := by decide
theorem test_rawTemp : after (.rawTemp 4096 3) (booted 1) (·.reading) = some (.temp 4096) := by decide

/-! ## The actuator (95 part 2.6) -/

theorem test_adPulse :
    after .adPulse (booted 3) (fun t => (t.act, t.hist.drop 3)) =
      some (false, [.W .act true, .D 1000000, .W .act false]) := by decide

/-! ## Access rights (R212) -/

/-- The block reads its register CS; the display does not, and neither reads the line. -/
theorem test_view_latch :
    (inFrame 1 0).view .block (.latch .cs) = some 0 ∧ (booted 1).view .block (.latch .cs) = some 1 ∧
    (booted 1).view .displayPublisher (.latch .cs) = none ∧ (booted 1).view .block (.out .cs) = none ∧
    (booted 1).view .sensor (.out .cs) = some 1 := by decide

/-! ## Witnesses: states and operands that meet the hypotheses of the statements -/

/-- A reset block whose bench holds CL.INPUT and then a data word. -/
def benched : State := { State.reset with bench := [⟨4, 1⟩, ⟨16, 0x0194⟩] }

theorem witness_LineWriteSetsTheLatch : OutLine.clk ≠ .cs := by decide

theorem witness_DecodeUndoesEncode :
    decode ⟨4, 9⟩ = .ok .plClkhi ∧ decode ⟨16, 0xFFFF⟩ = .ok (.rawFault 8191 3) := ⟨rfl, rfl⟩

/-- Both lengths at their largest value, one value above each, and a length between them. -/
theorem witness_EveryCodeNamesOneOperation :
    (CodeWord.mk 4 15).wf = true ∧ (CodeWord.mk 16 65535).wf = true ∧ 2 ^ 4 ≤ 16 ∧ 2 ^ 16 ≤ 65536 ∧
    (CodeWord.mk 8 0).bits < 2 ^ (CodeWord.mk 8 0).nbits ∧ (CodeWord.mk 8 0).nbits ≠ 4 ∧
    (CodeWord.mk 8 0).nbits ≠ 16 := by decide

theorem witness_StepRunsTheSelectedCode :
    benched.cfg.wf = true ∧ benched.phase.toNat ≤ 4 ∧ benched.plPhase.toNat ≤ 4 ∧
    benched.bench = ⟨4, 1⟩ :: [⟨16, 0x0194⟩] ∧ decode ⟨4, 1⟩ = .ok .clInput :=
  ⟨by decide, by decide, by decide, rfl, rfl⟩

/-- A state for each clause: every phase, and every micro-operation. -/
theorem witness_StepRunsTheSequencersChoice :
    (∀ p ∈ [0, 1, 2, 3, 4], (booted p).cfg.wf = true ∧ (booted p).bench = [] ∧ (booted p).phase.toNat ≤ 4 ∧
      (booted p).plPhase = 0 ∧ (booted p).phase = p) ∧
    (∀ p ∈ [1, 2, 3, 4], (inFrame p 3).cfg.wf = true ∧ (inFrame p 3).bench = [] ∧
      (inFrame p 3).phase.toNat ≤ 4 ∧ (inFrame p 3).plPhase = p ∧ (inFrame p 3).phase = 2) ∧
    (∃ s : State, s.cfg.wf = true ∧ s.bench = [] ∧ s.phase.toNat ≤ 4 ∧ s.plPhase = 4 ∧ s.phase ≠ 2) :=
  ⟨by decide, by decide, { inFrame 4 16 with phase := 3 }, by decide⟩

/-- An illegal configuration, and the smallest and the largest meaningless value of each sequencer register. -/
theorem witness_MeaninglessStatesAreRefused :
    (∃ s : State, s.cfg.wf = false) ∧
    (∀ p ∈ [5, 7], (booted p).cfg.wf = true ∧ 4 < (booted p).phase.toNat) ∧
    (∀ p ∈ [5, 7], (inFrame p 0).cfg.wf = true ∧ (inFrame p 0).phase.toNat ≤ 4 ∧
      4 < (inFrame p 0).plPhase.toNat) :=
  ⟨⟨{ State.reset with cfg := { Params.default with tSettleNs := 999 } }, by decide⟩, by decide, by decide⟩

theorem witness_DecodeByFaultBitAndShift :
    (0x0194 : RawSample).toNat / 2 ^ 2 % 2 = 1 ∧ (0xFFFF : RawSample).toNat / 2 ^ 2 % 2 = 1 ∧
    (0x0190 : RawSample).toNat / 2 ^ 2 % 2 = 0 ∧ (0xFFFB : RawSample).toNat / 2 ^ 2 % 2 = 0 := by decide

theorem witness_DataWordsDecodeAsThemselves :
    (∃ t u, exec (.rawFault 50 0) State.reset = .next t ∧
      exec .tdDecode { State.reset with shreg := BitVec.ofNat 16 (encode (.rawFault 50 0)).bits } = .next u) ∧
    (∃ t u, exec (.rawTemp 8191 3) State.reset = .next t ∧
      exec .tdDecode { State.reset with shreg := BitVec.ofNat 16 (encode (.rawTemp 8191 3)).bits } = .next u) :=
  ⟨⟨_, _, rfl, rfl⟩, ⟨_, _, rfl, rfl⟩⟩

theorem witness_RoundCompletes :
    (booted 1).reading = .temp 0 ∧ ({ booted 1 with reading := .fault } : State).reading = .fault := ⟨rfl, rfl⟩

theorem witness_PublishedValueRange : (1 : Quarters).toNat ≤ (8191 : Quarters).toNat ∧ 500 ≤ 500 := by decide

theorem witness_ClkHiRaisesTheClock :
    (inFrame 1 0).cfg.wf = true ∧ (inFrame 1 0).bench = [] ∧ (inFrame 1 0).phase.toNat ≤ 4 ∧
    (inFrame 1 0).plPhase = 1 := by decide

/-- The first and the last count of a frame, with a script and without one. -/
theorem witness_SampleStoresTheBit :
    (inFrame 2 0).bitcnt.toNat ≤ 15 ∧ (inFrame 2 15).bitcnt.toNat ≤ 15 ∧ (0 : Nat) < 16 ∧ (15 : Nat) < 16 ∧
    ({ inFrame 2 15 with env := { State.reset.env with data := [true] } } : State).env.data = true :: [] := by decide

theorem witness_ClkLoCountsThePulse :
    (inFrame 3 0).cfg.wf = true ∧ (inFrame 3 0).bench = [] ∧ (inFrame 3 0).phase.toNat ≤ 4 ∧
    (inFrame 3 0).plPhase = 3 ∧ (inFrame 3 0).bitcnt.toNat ≤ 15 ∧ (inFrame 3 14).bitcnt.toNat + 1 ≠ 16 ∧
    (inFrame 3 15).bitcnt.toNat ≤ 15 ∧ (inFrame 3 15).bitcnt.toNat + 1 = 16 := by decide

/-- The smallest count outside a frame, the last that counts on, and the one that does not. -/
theorem witness_ClkLoOutsideAFrame :
    16 ≤ (inFrame 3 16).bitcnt.toNat ∧ (inFrame 3 16).bitcnt.toNat ≤ 30 ∧ 16 ≤ (inFrame 3 30).bitcnt.toNat ∧
    (inFrame 3 30).bitcnt.toNat ≤ 30 ∧ 16 ≤ (inFrame 3 31).bitcnt.toNat := by decide

theorem witness_CsReleaseEndsTheFrame :
    (inFrame 4 16).cfg.wf = true ∧ (inFrame 4 16).bench = [] ∧ (inFrame 4 16).phase.toNat ≤ 4 ∧
    (inFrame 4 16).plPhase = 4 := by decide

/-- Before `begin()`, with the sensor timer just expired. -/
theorem witness_TransactionNeedsBegin : ∃ s : State, s.plCfg = false ∧
    s.cfg.sensorPeriodMs ≤ (s.clockNow - s.lastSensor).toNat :=
  ⟨{ State.reset with env := { State.reset.env with clock := [1000] } }, by decide⟩

theorem witness_TransactionReturnsTheSampledBits : (booted 1).plCfg = true := rfl

theorem witness_ScriptedWordIsReturned : ∃ s : State, s.plCfg = true ∧ s.env.data = wordBits 0x0190 ++ [true] :=
  ⟨{ booted 1 with env := { State.reset.env with data := wordBits 0x0190 ++ [true] } }, rfl, rfl⟩

theorem witness_ProtocolLinkNeverFails :
    Instr.plReadraw ∈ [Instr.plBegin, .plReadraw, .plCsassert, .plClkhi, .plSample, .plClklo, .plCsrelease] ∧
    (Instr.plReadraw = .plReadraw → (booted 2).plCfg = true) ∧
    (∃ t, exec .plReadraw (booted 2) = .next t) ∧ (∃ t, exec .plBegin State.reset = .next t) :=
  ⟨by decide, fun _ => rfl, ⟨_, rfl⟩, ⟨_, rfl⟩⟩

theorem witness_MicroStepsEqualTheAtomicPoll : (atTime 2 1000).cfg.wf = true ∧ (atTime 2 1000).bench = [] ∧
    (atTime 2 1000).phase = 2 ∧ (atTime 2 1000).plCfg = true ∧
    (atTime 2 1000).cfg.sensorPeriodMs ≤ ((atTime 2 1000).clockNow - (atTime 2 1000).lastSensor).toNat := by decide

/-- The last millisecond without expiry and the first with it; a faulty word, and a good one. -/
theorem witness_SensorPhasePollsOnExpiry :
    ((atTime 2 999).clockNow - (atTime 2 999).lastSensor).toNat < (atTime 2 999).cfg.sensorPeriodMs ∧
    (atTime 2 1000).plCfg = true ∧
    (atTime 2 1000).cfg.sensorPeriodMs ≤ ((atTime 2 1000).clockNow - (atTime 2 1000).lastSensor).toNat ∧
    (0x0194 : RawSample).getLsbD 2 = true ∧ (0x0190 : RawSample).getLsbD 2 = false := by decide

/-- Both counts of the statement occur, a poll and no poll; and CL.START, which writes CS, is among the other phases. -/
theorem witness_TransactionsArePeriodsApart :
    (∃ t, exec .clSensor (atTime 2 999) = .next t) ∧ (∃ t, exec .clSensor (atTime 2 1000) = .next t) ∧
    (Instr.clStart ∈ [Instr.clStart, .clInput, .clAct, .clIdle] ∧ ∃ t, exec .clStart State.reset = .next t) :=
  ⟨⟨_, rfl⟩, ⟨_, rfl⟩, by decide, _, rfl⟩

theorem witness_ActPhasePulsesOnRequest :
    ((atTime 3 49).clockNow - (atTime 3 49).lastAct).toNat < (atTime 3 49).cfg.actPeriodMs ∧
    (atTime 3 50).cfg.actPeriodMs ≤ ((atTime 3 50).clockNow - (atTime 3 50).lastAct).toNat ∧
    (atTime 3 50).actuatorRequested = false ∧
    ({ atTime 3 50 with actuatorRequested := true } : State).actuatorRequested = true ∧
    ({ atTime 3 50 with actuatorRequested := true } : State).clockNow = (atTime 3 50).clockNow := by decide

theorem witness_OnePulsePerRequestedExpiry :
    (Instr.clSensor ∈ [Instr.clStart, .clInput, .clSensor, .clIdle] ∧
      ∃ t, exec .clSensor (atTime 2 1000) = .next t) ∧
    (Instr.clStart ∈ [Instr.clStart, .clInput, .clSensor, .clIdle] ∧ ∃ t, exec .clStart State.reset = .next t) ∧
    expired 50 0 50 = true ∧ expired 49 0 50 = false :=
  ⟨⟨by decide, _, rfl⟩, ⟨by decide, _, rfl⟩, by decide, by decide⟩

theorem witness_ActuatorIgnoresTheTemperature : ∃ t, exec .clAct (atTime 3 50) = .next t := ⟨_, rfl⟩

theorem witness_TimersAreIndependent :
    (∃ t, exec .clSensor (atTime 2 1000) = .next t) ∧ (∃ t, exec .clAct (atTime 3 50) = .next t) :=
  ⟨⟨_, rfl⟩, ⟨_, rfl⟩⟩

/-- The premise at both ends: no time has passed, and one millisecond less than the clock's range. -/
theorem witness_TimerTestIsTrueElapsedTime :
    (atTime 2 7).ClockPremise 7 ∧ (atTime 2 4294967296).ClockPremise 1 := by
  unfold State.ClockPremise; decide

theorem witness_NoPartialPublication :
    (∃ t, exec .clSensor (atTime 2 1000) = .next t) ∧ ([] : List Event) <+: [.T 1000] := ⟨⟨_, rfl⟩, by decide⟩

theorem witness_DisplayShowsTheFlagFirst :
    ({ booted 2 with notConnected := true } : State).notConnected = true ∧ (booted 2).notConnected = false ∧
    ({ booted 2 with shreg := 0x0004 } : State).shreg.getLsbD 2 = true := by decide

/-- A register and a line that an operation may not write, beside one it may. -/
theorem witness_OnlyNamedWritersChangeARegister :
    (∃ t, exec .clAct (atTime 3 50) = .next t) ∧ writes .clAct .lastSensor = false ∧
    writes .clAct .lastAct = true ∧ drives .clAct .cs = false ∧ drives .clAct .act = true ∧
    Instr.clAct ≠ .clStart ∧ Instr.clAct ≠ .plBegin :=
  ⟨⟨_, rfl⟩, rfl, rfl, rfl, rfl, by decide, by decide⟩

theorem witness_HistoryGrowsAndIsNeverRead : ∃ t, exec .clSensor (atTime 2 1000) = .next t := ⟨_, rfl⟩

theorem witness_ConfigurationIsFixed :
    (∃ t, step (booted 1) = .next t) ∧ (∃ t, step benched = .next t) ∧ (∃ t, exec .adPulse benched = .next t) :=
  ⟨⟨_, rfl⟩, ⟨_, rfl⟩, ⟨_, rfl⟩⟩

/-- An operation that samples the clock and one that does not. -/
theorem witness_ClockIsMonotone :
    (∃ t, exec .clAct (atTime 3 50) = .next t ∧ .T 50 ∈ t.hist.drop 3) ∧
    (∃ t, exec .clIdle (booted 4) = .next t ∧ ∀ e ∈ t.hist.drop 3, e ≠ .T 50) :=
  ⟨⟨_, rfl, by decide⟩, ⟨_, rfl, by decide⟩⟩

theorem witness_TemperatureStaysInRange : ∃ s t : State,
    s.currentTemperature.toNat ≤ 500 ∧ step s = .next t ∧ s.currentTemperature = 500 :=
  ⟨{ atTime 2 1000 with currentTemperature := 500 }, _, by decide, rfl, rfl⟩

theorem witness_ActuatorOffBetweenOperations : ∃ s t : State,
    s.act = false ∧ s.actuatorRequested = true ∧ step s = .next t :=
  ⟨{ atTime 3 50 with actuatorRequested := true }, _, rfl, rfl, rfl⟩

theorem witness_DisplaySeesOnlyThePublished :
    (booted 1).published = (booted 2).published ∧
    (∀ x, (booted 1).view .displayPublisher x = (booted 2).view .displayPublisher x) ∧
    Instr.plSample ∈ [Instr.plBegin, .plReadraw, .plCsassert, .plClkhi, .plSample, .plClklo, .plCsrelease] ∧
    (∃ t, exec .plSample (inFrame 2 0) = .next t) := by
  refine ⟨by decide, fun x => ?_, by decide, _, rfl⟩
  cases x with
  | reg r => cases r <;> rfl
  | _ => rfl

/-- A booted state whose history agrees with its latches, and a step from it. -/
theorem witness_StepKeepsLinesMatchingHistory :
    (booted 1).LinesMatchHistory ∧ ∃ t, step (booted 1) = .next t := by
  refine ⟨fun l b h => ?_, _, rfl⟩
  cases l <;> cases b <;> first | rfl | exact absurd h (by decide)

/-- A state in which two registers have been written, and a step from it. -/
theorem witness_StepKeepsRegistersMatchingHistory : ∃ s t : State, s.RegistersMatchHistory ∧
    lastValue .phase s.hist = some 2 ∧ lastValue .actuatorRequested s.hist = some 1 ∧ step s = .next t := by
  refine ⟨{ atTime 2 1000 with
    actuatorRequested := true, hist := [.S [(.actuatorRequested, 1)], .S [(.phase, 2)]] }, _, ?_, by decide,
    by decide, rfl⟩
  intro r v h
  cases r <;> cases h <;> rfl

/-- The events of chip-select and of `n` whole pulses. -/
def frameStart (n : Nat) : List Event :=
  .W .cs false :: (List.replicate n
    [Event.W .clk true, .D 1000, .R .data true, .W .clk false, .D 1000]).flatten

/-- A booted block before its first pulse, with its clock high in the first, and after the last. -/
def framed (p : SeqCode) : State :=
  match p.toNat with
  | 1 => { inFrame 1 0 with hist := (booted 2).hist ++ frameStart 0 }
  | 2 => { inFrame 2 0 with clk := true, hist := (booted 2).hist ++ frameStart 0 ++ [.W .clk true, .D 1000] }
  | 3 => { inFrame 3 0 with
      clk := true, hist := (booted 2).hist ++ frameStart 0 ++ [.W .clk true, .D 1000, .R .data true] }
  | _ => { inFrame 4 16 with hist := (booted 2).hist ++ frameStart 16 }

/-- The states of the fixed program: power-on, every phase, and every position in a transaction. -/
theorem witness_Running : State.reset.Running ∧ (booted 1).Running ∧ (booted 2).Running ∧ (booted 3).Running ∧
    (booted 4).Running ∧ (framed 1).Running ∧ (framed 2).Running ∧ (framed 3).Running ∧ (framed 4).Running := by
  refine ⟨?_, ?_, ?_, ?_, ?_, ?_, ?_, ?_, ?_⟩ <;> constructor <;> decide

theorem witness_StepKeepsTheProgramRunning : (State.reset.Running ∧ ∃ t, step State.reset = .next t) ∧
    ((framed 4).Running ∧ ∃ t, step (framed 4) = .next t) :=
  ⟨⟨witness_Running.1, _, rfl⟩, witness_Running.2.2.2.2.2.2.2.2, _, rfl⟩

theorem witness_ProgramNeverStops : (booted 3).Running := witness_Running.2.2.2.1

/-- Each clause has a state of the fixed program: power-on, the four phases, and the positions in a transaction. -/
theorem witness_PhasesSucceedInOrder :
    State.reset.phase = 0 ∧ (∀ p ∈ [1, 2, 3, 4], (booted p).phase = p ∧ (booted p).plPhase = 0) ∧
    (∀ p ∈ [1, 2, 3, 4], (framed p).phase = 2 ∧ (framed p).plPhase = p) ∧
    State.reset.Running ∧ (booted 4).Running ∧ (framed 2).Running ∧
    (∃ t, step State.reset = .next t) ∧ (∃ t, step (booted 1) = .next t) ∧ (∃ t, step (booted 3) = .next t) ∧
    (∃ t, step (booted 4) = .next t) ∧ (∃ t, step (framed 1) = .next t) ∧ (∃ t, step (framed 2) = .next t) ∧
    (∃ t, step (framed 3) = .next t) ∧ (∃ t, step (framed 4) = .next t) :=
  ⟨rfl, by decide, by decide, witness_Running.1, witness_Running.2.2.2.2.1, witness_Running.2.2.2.2.2.2.1,
    ⟨_, rfl⟩, ⟨_, rfl⟩, ⟨_, rfl⟩, ⟨_, rfl⟩, ⟨_, rfl⟩, ⟨_, rfl⟩, ⟨_, rfl⟩, ⟨_, rfl⟩⟩

end Sys2Proof.Tests
end

section
/-! Which operation a step runs when no test bench selects one (R21, R22, R85). -/

namespace Sys2Proof.Machine

variable {s : State} {i : Instr}

/-- The five codes that a rule writes into `phase` or `pl_phase` (R21, R22). -/
theorem seqCode_cases (p : SeqCode) (h : p.toNat ≤ 4) : p = 0 ∨ p = 1 ∨ p = 2 ∨ p = 3 ∨ p = 4 := by
  revert p; decide

section
variable (hw : s.cfg.wf = true) (hb : s.bench = []) (hp : s.phase.toNat ≤ 4)
include hw hb hp

/-- Legal registers and an empty bench leave the choice to the sequencer (R90, R236, log 7). -/
theorem fetch_eq_sequence (hq : s.plPhase.toNat ≤ 4) : s.fetch = s.sequence := by
  simp [State.fetch, hw, hb, Nat.not_lt.mpr hp, Nat.not_lt.mpr hq]

/-- Outside a transaction the step runs the phase (R21). -/
theorem step_eq_exec_phaseOp (hq : s.plPhase = plIdle) (hi : phaseOp s.phase = some i) : step s = exec i s := by
  have hm : microOp s.plPhase = none := by rw [hq]; rfl
  simp [step, fetch_eq_sequence hw hb hp (by simp [hq]), State.sequence, hm, hi, afterExec]

/-- In a transaction the step runs the micro-operation (R22), here one that does not return into CL.SENSOR. -/
theorem step_eq_exec_microOp (hq : s.plPhase.toNat ≤ 4) (hi : microOp s.plPhase = some i)
    (hr : ¬ (s.plPhase = plRelease ∧ s.phase = phaseSensor)) : step s = exec i s := by
  simp only [step, fetch_eq_sequence hw hb hp hq, State.sequence, hi, decide_eq_false hr]
  rfl

/-- The end of a transaction in phase SENSOR returns into CL.SENSOR (R22; log 9). -/
theorem step_eq_finishPoll (hq : s.plPhase = plRelease) (hs : s.phase = phaseSensor) :
    step s = .next s.csRelease.finishPoll := by
  have hm : microOp s.plPhase = some .plCsrelease := by rw [hq]; rfl
  simp only [step, fetch_eq_sequence hw hb hp (by simp [hq]), State.sequence, hm, decide_eq_true (And.intro hq hs)]
  rfl

end

/-- Settles O6: the sequencer's choice, read off the two tables of codes. -/
theorem stepRunsTheSequencersChoice : Obligations.StepRunsTheSequencersChoice := by
  intro s hw hb hp
  have phase {i : Instr} (hq : s.plPhase = 0) (hi : phaseOp s.phase = some i) : step s = exec i s :=
    step_eq_exec_phaseOp hw hb hp hq hi
  have micro {i : Instr} (q : SeqCode) (hq : s.plPhase = q) (hl : q.toNat ≤ 4) (hi : microOp q = some i)
      (hr : ¬ (q = plRelease ∧ s.phase = phaseSensor)) : step s = exec i s := by
    subst hq; exact step_eq_exec_microOp hw hb hp hl hi hr
  refine ⟨fun hq => ⟨?_, ?_, ?_, ?_, ?_⟩, ?_, ?_, ?_, ?_, ?_⟩
  · exact fun h => phase hq (by rw [h]; rfl)
  · exact fun h => phase hq (by rw [h]; rfl)
  · exact fun h => phase hq (by rw [h]; rfl)
  · exact fun h => phase hq (by rw [h]; rfl)
  · exact fun h => phase hq (by rw [h]; rfl)
  · exact fun hq => micro 1 hq (by decide) rfl (by simp)
  · exact fun hq => micro 2 hq (by decide) rfl (by simp)
  · exact fun hq => micro 3 hq (by decide) rfl (by simp)
  · exact fun hq hs => micro 4 hq (by decide) rfl (fun h => hs h.2)
  · exact fun hq hs => ⟨_, rfl, step_eq_finishPoll hw hb hp hq hs⟩

end Sys2Proof.Machine
end

section
/-! What every operation, and so every step, keeps of the temperature and of the actuator latch. -/

namespace Sys2Proof.Machine

variable {s t : State} {i : Instr}

/-- What every operation keeps, the return into CL.SENSOR keeps, and the bench does not touch, every step keeps. -/
theorem step_keeps {P : State → Prop} (hbench : ∀ s rest, P s → P { s with bench := rest })
    (hexec : ∀ i s t, P s → exec i s = .next t → P t) (hpoll : ∀ s, P s → P s.finishPoll)
    (hs : P s) (h : step s = .next t) : P t := by
  obtain ⟨-, -, -, ⟨c, rest, i, -, -, hx⟩ | ⟨-, i, -, ⟨-, -, u, hx, rfl⟩ | ⟨-, hx⟩⟩ | ⟨-, -, i, -, hx⟩⟩ := step_next h
  · exact hexec i _ _ (hbench s rest hs) hx
  · exact hpoll u (hexec i s u hs hx)
  · exact hexec i s t hs hx
  · exact hexec i s t hs hx

/-- TD.ROUND changes its result and the environment alone (R134). -/
theorem roundReading_frame (s : State) : ∃ n e, s.roundReading = { s with rounded := n, env := e } := by
  unfold State.roundReading
  split
  · exact ⟨_, s.env, rfl⟩
  · exact ⟨_, _, rfl⟩

/-- The three things CL.ACT can do before it goes on to IDLE (R156 to R158). -/
theorem checkActuator_cases (s : State) :
    s.checkActuator = s.readClock ∨ s.checkActuator = s.readClock.writeLastAct s.clockNow ∨
      s.checkActuator = (s.readClock.writeLastAct s.clockNow).actPulse := by
  unfold State.checkActuator
  split
  · cases hr : s.actuatorRequested with
    | false => exact .inr (.inl (serviceActuator_idle _ _ hr))
    | true => exact .inr (.inr (serviceActuator_pulse _ _ hr))
  · exact .inl rfl

/-- The rest of a poll keeps the temperature or publishes one in range (R135, R155). -/
theorem finishPoll_currentTemperature (s : State) :
    s.finishPoll.currentTemperature = s.currentTemperature ∨ s.finishPoll.currentTemperature.toNat ≤ 500 := by
  obtain ⟨-, hc, -⟩ | ⟨c, hc, -, rfl, -⟩ := finishPoll_report s
  · exact .inl hc
  · exact .inr hc

/-- An operation keeps the temperature or publishes one in range. -/
theorem exec_currentTemperature (h : exec i s = .next t) :
    t.currentTemperature = s.currentTemperature ∨ t.currentTemperature.toNat ≤ 500 := by
  cases i with
  | clStart => cases h; simp [startTimers_eq, clearControl_eq]
  | clSensor =>
    obtain ⟨-, -, rfl⟩ | ⟨-, rfl⟩ := execClSensor_next h
    · simpa using finishPoll_currentTemperature (s.readClock.writeLastSensor s.clockNow).transaction
    · exact .inl rfl
  | clAct =>
    cases h
    obtain hc | hc | hc := checkActuator_cases s <;> simp [hc]
  | plReadraw =>
    obtain ⟨-, rfl⟩ := (readRaw_eq_next s).1 h
    simp
  | tdRound =>
    cases h
    obtain ⟨n, e, hr⟩ := roundReading_frame s
    simp [hr]
  | clInput | clIdle | plBegin | tdDecode | plCsassert | plClkhi | plSample | plClklo | plCsrelease | tdClamp
  | adPulse | rawFault | rawTemp => cases h; simp

/-- An operation keeps the actuator latch or ends with it deasserted (R182). -/
theorem exec_act (h : exec i s = .next t) : t.act = s.act ∨ t.act = false := by
  cases i with
  | clStart => cases h; simp [startTimers_eq]
  | clSensor => obtain ⟨-, -, rfl⟩ | ⟨-, rfl⟩ := execClSensor_next h <;> simp
  | clAct =>
    cases h
    obtain hc | hc | hc := checkActuator_cases s <;> simp [hc]
  | plReadraw =>
    obtain ⟨-, rfl⟩ := (readRaw_eq_next s).1 h
    simp
  | tdRound =>
    cases h
    obtain ⟨n, e, hr⟩ := roundReading_frame s
    simp [hr]
  | clInput | clIdle | plBegin | tdDecode | plCsassert | plClkhi | plSample | plClklo | plCsrelease | tdClamp
  | adPulse | rawFault | rawTemp => cases h; simp

/-- Settles O47: each operation and the rest of a poll keep the temperature or publish a clamped one. -/
theorem temperatureStaysInRange : Obligations.TemperatureStaysInRange := fun _ _ =>
  step_keeps (P := fun s => s.currentTemperature.toNat ≤ 500) (fun _ _ hs => hs)
    (fun _ _ _ hs hx => (exec_currentTemperature hx).elim (fun h => h ▸ hs) id)
    (fun s hs => (finishPoll_currentTemperature s).elim (fun h => h ▸ hs) id)

/-- Settles O48: each operation keeps the latch or ends with it deasserted, and the rest of a poll keeps it. -/
theorem actuatorOffBetweenOperations : Obligations.ActuatorOffBetweenOperations := fun _ _ =>
  step_keeps (P := fun s => s.act = false) (fun _ _ hs => hs)
    (fun _ _ _ hs hx => (exec_act hx).elim (fun h => h.trans hs) id)
    (fun s hs => (finishPoll_act s).trans hs)

end Sys2Proof.Machine
end

section
/-! What a consumer of the published registers sees while it follows the events of an operation (R32, R60, R212). -/

namespace Sys2Proof.Machine

variable {s t u : State} {i : Instr}

/-- An event that shows the consumer nothing new. -/
def Event.Quiet (e : Event) : Prop := ∀ p : Published, p.see e = p

theorem seeAll_of_quiet {es : List Event} (h : ∀ e ∈ es, e.Quiet) (p : Published) : p.seeAll es = p := by
  induction es with
  | nil => rfl
  | cons e es ih =>
    obtain ⟨he, hes⟩ := List.forall_mem_cons.1 h
    simpa [Published.seeAll, he p] using ih hes

/-- Where one event alone publishes, the consumer sees everything as before it or everything as after it. -/
theorem seeAll_before_or_after {a b q : List Event} {e : Event} (ha : ∀ x ∈ a, x.Quiet) (hb : ∀ x ∈ b, x.Quiet)
    (hq : q <+: a ++ e :: b) (p : Published) : p.seeAll q = p ∨ p.seeAll q = p.see e := by
  induction a generalizing q with
  | nil =>
    obtain rfl | ⟨r, rfl, hr⟩ := List.prefix_cons_iff.1 hq
    · exact .inl rfl
    · exact .inr (seeAll_of_quiet (fun x hx => hb x (hr.subset hx)) (p.see e))
  | cons x a ih =>
    obtain ⟨hx, ha⟩ := List.forall_mem_cons.1 ha
    obtain rfl | ⟨r, rfl, hr⟩ := List.prefix_cons_iff.1 hq
    · exact .inl rfl
    · simpa [Published.seeAll, hx p] using ih ha hr

theorem quiet_pulseEvents (ts n : Nat) (v : RawSample) (ds : List Bool) : ∀ e ∈ pulseEvents ts n v ds, e.Quiet := by
  induction ds generalizing n v with
  | nil => simp [pulseEvents]
  | cons d ds ih =>
    rw [pulseEvents, List.forall_mem_append]
    exact ⟨by simp [Event.Quiet, Published.see, Published.put], ih _ _⟩

theorem quiet_transactionEvents (ts : Nat) (ds : List Bool) : ∀ e ∈ transactionEvents ts ds, e.Quiet := by
  rw [transactionEvents, List.forall_mem_append, List.forall_mem_append]
  exact ⟨⟨by simp [Event.Quiet, Published.see, Published.put], quiet_pulseEvents _ _ _ _⟩,
    by simp [Event.Quiet, Published.see, Published.put]⟩

/-- `t` comes after `s`, and a consumer that follows the events between them sees what `t` holds. -/
def State.ShownBy (s t : State) : Prop := ∃ new, t.hist = s.hist ++ new ∧ s.published.seeAll new = t.published

theorem State.ShownBy.trans (h : s.ShownBy t) (h' : t.ShownBy u) : s.ShownBy u := by
  obtain ⟨a, ha, hsa⟩ := h
  obtain ⟨b, hb, hsb⟩ := h'
  exact ⟨a ++ b, by rw [hb, ha, List.append_assoc], by rw [Published.seeAll, List.foldl_append, ← hsb, ← hsa]; rfl⟩

/-- An update that publishes nothing and makes no event. -/
theorem shownBy_of_same (hh : t.hist = s.hist) (hp : t.published = s.published) : s.ShownBy t :=
  ⟨[], by simp [hh], hp.symm⟩

/-- An update that publishes nothing and makes quiet events alone. -/
theorem shownBy_of_quiet {es : List Event} (hh : t.hist = s.hist ++ es) (hq : ∀ e ∈ es, e.Quiet)
    (hp : t.published = s.published) : s.ShownBy t :=
  ⟨es, hh, (seeAll_of_quiet hq _).trans hp.symm⟩

/-! The access primitives and the register writes. -/

theorem shownBy_lineWrite (s : State) (l : OutLine) (b : Bool) : s.ShownBy (s.lineWrite l b) := by
  cases l <;> exact ⟨_, rfl, rfl⟩

theorem shownBy_delay (s : State) (n : Nat) : s.ShownBy (s.delay n) := ⟨_, rfl, rfl⟩
theorem shownBy_readData (s : State) : s.ShownBy s.readData := ⟨_, rfl, rfl⟩
theorem shownBy_readReq (s : State) : s.ShownBy s.readReq := ⟨_, rfl, rfl⟩
theorem shownBy_readClock (s : State) : s.ShownBy s.readClock := ⟨_, rfl, rfl⟩
theorem shownBy_takeFree (s : State) : s.ShownBy s.takeFree := shownBy_of_same rfl rfl
theorem shownBy_writePhase (s : State) (p : SeqCode) : s.ShownBy (s.writePhase p) := ⟨_, rfl, rfl⟩
theorem shownBy_writePlPhase (s : State) (p : SeqCode) : s.ShownBy (s.writePlPhase p) := ⟨_, rfl, rfl⟩
theorem shownBy_writeShreg (s : State) (v : RawSample) : s.ShownBy (s.writeShreg v) := ⟨_, rfl, rfl⟩
theorem shownBy_writeBitcnt (s : State) (n : BitVec 5) : s.ShownBy (s.writeBitcnt n) := ⟨_, rfl, rfl⟩
theorem shownBy_writeRequested (s : State) (b : Bool) : s.ShownBy (s.writeRequested b) := ⟨_, rfl, rfl⟩
theorem shownBy_writeLastAct (s : State) (now : Ms) : s.ShownBy (s.writeLastAct now) := ⟨_, rfl, rfl⟩

/-! The shared operations. -/

theorem shownBy_begin (s : State) : s.ShownBy s.begin := by
  refine shownBy_of_quiet (by rw [begin_hist, List.append_assoc]) ?_ (by simp [State.published])
  split <;> simp [Event.Quiet, Published.see, Published.put]

theorem shownBy_sample (s : State) : s.ShownBy s.sample := by
  have store : s.readData.ShownBy (s.readData.storeSample s.dataBit) := by
    unfold State.storeSample
    split
    · exact shownBy_writeShreg _ _
    · exact (shownBy_takeFree _).trans (shownBy_writeShreg _ _)
  exact ((shownBy_readData s).trans store).trans (shownBy_writePlPhase _ _)

theorem shownBy_countPulse (s : State) : s.ShownBy s.countPulse := by
  unfold State.countPulse
  split
  · exact shownBy_writeBitcnt _ _
  · exact (shownBy_takeFree _).trans (shownBy_writeBitcnt _ _)

theorem shownBy_clkLo (s : State) : s.ShownBy s.clkLo :=
  (((shownBy_lineWrite s .clk false).trans (shownBy_delay _ _)).trans (shownBy_countPulse _)).trans
    (shownBy_writePlPhase _ _)

theorem shownBy_transaction (s : State) : s.ShownBy s.transaction :=
  shownBy_of_quiet (transaction_hist s) (quiet_transactionEvents _ _) (by simp [State.published])

theorem shownBy_actPulse (s : State) : s.ShownBy s.actPulse :=
  ((shownBy_lineWrite s .act true).trans (shownBy_delay _ _)).trans (shownBy_lineWrite _ .act false)

theorem shownBy_checkActuator (s : State) : s.ShownBy s.checkActuator := by
  have reload := (shownBy_readClock s).trans (shownBy_writeLastAct _ s.clockNow)
  obtain h | h | h := checkActuator_cases s <;> rw [h]
  · exact shownBy_readClock s
  · exact reload
  · exact reload.trans (shownBy_actPulse _)

theorem shownBy_roundReading (s : State) : s.ShownBy s.roundReading := by
  obtain ⟨n, e, h⟩ := roundReading_frame s
  rw [h]
  exact shownBy_of_same rfl rfl

/-- CL.START publishes by its three clears alone, one register at a time (R151). -/
theorem shownBy_clStart (s : State) : s.ShownBy
    (((s.clearControl.lineWrite .act false).begin.startTimers).writePhase phaseInput) := by
  have clear : s.ShownBy s.clearControl := ⟨_, by rw [clearControl_eq], rfl⟩
  have timers (u : State) : u.ShownBy u.startTimers := ⟨_, by rw [startTimers_eq], rfl⟩
  exact (((clear.trans (shownBy_lineWrite _ _ _)).trans (shownBy_begin _)).trans (timers _)).trans
    (shownBy_writePhase _ _)

/-- One event of CL.SENSOR at most publishes, and it shows all that CL.SENSOR leaves (R32, R155). -/
theorem execClSensor_publishes_once (h : execClSensor s = .next t) : ∃ a e b, t.hist = s.hist ++ (a ++ e :: b) ∧
    (∀ x ∈ a, x.Quiet) ∧ (∀ x ∈ b, x.Quiet) ∧ s.published.see e = t.published := by
  have phaseQuiet : ∀ x ∈ [Event.S [(.phase, 3)]], x.Quiet := by
    simp [Event.Quiet, Published.see, Published.put]
  obtain ⟨-, -, rfl⟩ | ⟨-, rfl⟩ := execClSensor_next h
  · have before : ∀ x ∈ Event.T s.clockNow :: .S [(.lastSensor, s.clockNow.toNat)] ::
        transactionEvents s.cfg.tSettleNs (s.env.popClock.drawBits 16), x.Quiet :=
      List.forall_mem_cons.2 ⟨fun _ => rfl, List.forall_mem_cons.2 ⟨fun _ => rfl, quiet_transactionEvents _ _⟩⟩
    obtain ⟨hn, hc, hh⟩ | ⟨c, -, hn, hc, hh⟩ :=
      finishPoll_report (s.readClock.writeLastSensor s.clockNow).transaction
    · exact ⟨_, .S [(.notConnected, 1)], _, by simp [hh], before, phaseQuiet,
        by simp [State.published, Published.see, Published.put, hn, hc]⟩
    · exact ⟨_, .S [(.currentTemperature, c.toNat), (.notConnected, 0)], _, by simp [hh], before, phaseQuiet,
        by simp [State.published, Published.see, Published.put, hn, hc]⟩
  · exact ⟨[.T s.clockNow], .S [(.phase, 3)], [], by simp, by simp [Event.Quiet, Published.see], by simp, rfl⟩

/-- A consumer that follows the events of an operation sees the registers it leaves. -/
theorem exec_shownBy (h : exec i s = .next t) : s.ShownBy t := by
  cases i with
  | clStart => cases h; exact shownBy_clStart s
  | clInput =>
    cases h
    exact ((shownBy_readReq s).trans (shownBy_writeRequested _ _)).trans (shownBy_writePhase _ _)
  | clSensor =>
    obtain ⟨a, e, b, hh, ha, hb, he⟩ := execClSensor_publishes_once h
    refine ⟨_, hh, ?_⟩
    rw [← he, Published.seeAll, List.foldl_append]
    exact (congrArg (Published.seeAll · (e :: b)) (seeAll_of_quiet ha _)).trans (seeAll_of_quiet hb _)
  | clAct => cases h; exact (shownBy_checkActuator s).trans (shownBy_writePhase _ _)
  | clIdle => cases h; exact (shownBy_delay s _).trans (shownBy_writePhase _ _)
  | plBegin => cases h; exact shownBy_begin s
  | plReadraw =>
    obtain ⟨-, rfl⟩ := (readRaw_eq_next s).1 h
    exact shownBy_transaction s
  | plCsassert => cases h; exact ⟨_, csAssert_hist s, by rw [csAssert_eq]; rfl⟩
  | plClkhi => cases h; exact ⟨_, clkHi_hist s, by rw [clkHi_eq]; rfl⟩
  | plSample => cases h; exact shownBy_sample s
  | plClklo => cases h; exact shownBy_clkLo s
  | plCsrelease => cases h; exact ⟨_, csRelease_hist s, by rw [csRelease_eq]; rfl⟩
  | tdRound => cases h; exact shownBy_roundReading s
  | adPulse => cases h; exact shownBy_actPulse s
  | tdDecode | tdClamp | rawFault | rawTemp => cases h; exact shownBy_of_same rfl rfl

/-- Settles O41: every operation is followed by its events, and CL.SENSOR publishes in one event of them. -/
theorem noPartialPublication : Obligations.NoPartialPublication := by
  refine ⟨fun i s t h => exec_shownBy h, fun s t h => ?_⟩
  obtain ⟨a, e, b, hh, ha, hb, he⟩ := execClSensor_publishes_once h
  exact ⟨_, hh, fun q hq => he ▸ seeAll_before_or_after ha hb hq s.published⟩

/-- The three published registers are all that DisplayPublisher may read (R212). -/
theorem view_displayPublisher_eq_iff :
    (∀ x, s.view .displayPublisher x = t.view .displayPublisher x) ↔ s.published = t.published := by
  constructor
  · intro h
    have hc := h (.reg .currentTemperature)
    have hn := h (.reg .notConnected)
    have hr := h (.reg .actuatorRequested)
    simp only [State.view, Agent.mayRead, State.itemValue, State.regValue, if_true, Option.some.injEq] at hc hn hr
    simp [State.published, hc, hn, hr]
  · intro h x
    injection h with hc hn hr
    cases x with
    | reg r => cases r <;> simp [State.view, Agent.mayRead, State.itemValue, State.regValue, hc, hn, hr]
    | latch l | out l | inp l | now => rfl

/-- No operation of ProtocolLink writes a published register (R103). -/
theorem exec_protocolLink_published
    (hi : i ∈ [Instr.plBegin, .plReadraw, .plCsassert, .plClkhi, .plSample, .plClklo, .plCsrelease])
    (h : exec i s = .next t) : t.published = s.published := by
  cases i with
  | plReadraw =>
    obtain ⟨-, rfl⟩ := (readRaw_eq_next s).1 h
    simp [State.published]
  | plBegin | plCsassert | plClkhi | plSample | plClklo | plCsrelease => cases h; simp [State.published]
  | clStart | clInput | clSensor | clAct | clIdle | tdDecode | tdRound | tdClamp | adPulse | rawFault | rawTemp =>
    simp at hi

/-- Settles O49, from the column "may read" of R212 and the frame of ProtocolLink. -/
theorem displaySeesOnlyThePublished : Obligations.DisplaySeesOnlyThePublished :=
  ⟨fun _ _ => view_displayPublisher_eq_iff,
    fun _ _ _ hi h => view_displayPublisher_eq_iff.2 (exec_protocolLink_published hi h)⟩

end Sys2Proof.Machine
end

section
/-! A transaction run by the micro-sequencer, three steps to a pulse (R22, R111; log 8, log 9). -/

namespace Sys2Proof.Machine

variable {s t : State} {k : Nat}

/-- The count of a frame fits its register (R27). -/
theorem toNat_bitcnt_succ {n : BitVec 5} (h : n.toNat < 16) : (n + 1).toNat = n.toNat + 1 := by
  bv_omega

/-- A run goes on from where its first step leads. -/
theorem run_succ_of_step (h : step s = .next t) :
    Host.Core.run Sys2Proof.core (k + 1) s = Host.Core.run Sys2Proof.core k t := by
  have h' : Sys2Proof.core.step s = .next t := h
  simp only [Host.Core.run, h']

/-- In phase SENSOR three steps from PL_HIGH make one pulse (R93 (a)). -/
theorem run_pulse (hw : s.cfg.wf = true) (hb : s.bench = []) (hs : s.phase = phaseSensor) (hq : s.plPhase = plHigh) :
    Host.Core.run Sys2Proof.core (k + 3) s = Host.Core.run Sys2Proof.core k s.pulse := by
  have micro (u : State) (i : Instr) (hc : u.cfg = s.cfg) (hub : u.bench = s.bench) (hus : u.phase = s.phase)
      (hl : u.plPhase.toNat < 4) (hi : microOp u.plPhase = some i) : step u = exec i u :=
    step_eq_exec_microOp (hc ▸ hw) (hub.trans hb) (by rw [hus, hs]; decide) (Nat.le_of_lt hl) hi
      (fun h => absurd hl (by rw [h.1]; decide))
  have high : step s = .next s.clkHi := micro s .plClkhi rfl rfl rfl (by rw [hq]; decide) (by rw [hq]; rfl)
  have mid : step s.clkHi = .next s.clkHi.sample :=
    micro s.clkHi .plSample (clkHi_cfg s) (clkHi_bench s) (clkHi_phase s) (by simp) (by rw [clkHi_plPhase]; rfl)
  have low : step s.clkHi.sample = .next s.pulse :=
    micro s.clkHi.sample .plClklo (by simp) (by simp) (by simp) (by simp) (by rw [sample_plPhase]; rfl)
  rw [run_succ_of_step high, run_succ_of_step mid, run_succ_of_step low]

/-- Three steps a pulse, as long as the frame has room for the pulses. -/
theorem run_pulses (n : Nat) (hw : s.cfg.wf = true) (hb : s.bench = []) (hs : s.phase = phaseSensor)
    (hq : 0 < n → s.plPhase = plHigh) (hn : s.bitcnt.toNat + n ≤ 16) :
    Host.Core.run Sys2Proof.core (k + 3 * n) s = Host.Core.run Sys2Proof.core k (State.pulses n s) := by
  induction n generalizing s with
  | zero => rfl
  | succ n ih =>
    have hlt : s.bitcnt.toNat < 16 := by omega
    have hcount : (s.bitcnt + 1).toNat = s.bitcnt.toNat + 1 := toNat_bitcnt_succ hlt
    have heq := pulse_eq s hlt
    rw [show k + 3 * (n + 1) = k + 3 * n + 3 by omega, run_pulse hw hb hs (hq n.succ_pos), pulses_succ]
    apply ih
    · rw [heq]; exact hw
    · rw [heq]; exact hb
    · rw [heq]; exact hs
    · intro hpos
      rw [heq]
      exact if_neg (by omega)
    · rw [heq]
      show (s.bitcnt + 1).toNat + n ≤ 16
      omega

/-- Settles O29: sixteen pulses of three steps, and one step for the release and the return. -/
theorem microStepsEqualTheAtomicPoll : Obligations.MicroStepsEqualTheAtomicPoll := by
  intro s hw hb hs hc he
  obtain ⟨u, hu⟩ : ∃ u, u = s.readClock.writeLastSensor s.clockNow := ⟨_, rfl⟩
  rw [← hu]
  have huc : u.plCfg = true := by simpa [hu] using hc
  have atomic : exec .clSensor s = .next u.transaction.finishPoll := by
    have hexp : expired s.clockNow s.lastSensor s.cfg.sensorPeriodMs = true := decide_eq_true he
    simp only [exec, execClSensor, hexp, if_true, ← hu, (readRaw_eq_next u).2 ⟨huc, rfl⟩, onNext_next]
  have frame := run_pulses (s := u.csAssert) (k := 1) 16 (by simpa [hu] using hw) (by simpa [hu] using hb)
    (by simpa [hu] using hs) (fun _ => csAssert_plPhase u) (by simp)
  have full := pulses_eq 15 u.csAssert (by simp)
  have release : step (State.pulses 16 u.csAssert) = .next u.transaction.finishPoll := by
    apply step_eq_finishPoll <;> rw [full]
    · simpa [hu] using hw
    · simpa [hu] using hb
    · simp [hu, hs]
    · simp
    · simpa [hu] using hs
  exact (frame.trans (run_succ_of_step release)).trans atomic.symm

end Sys2Proof.Machine
end

section
/-! The fixed program: its invariant at power-on and along every step (R21, R112). -/

namespace Sys2Proof.Machine

variable {s t : State}

/-! The waveform. -/

theorem wave_run_append (ts : Nat) (w : Wave) (a b : List Event) :
    Wave.run ts w (a ++ b) = (Wave.run ts w a).bind (Wave.run ts · b) := List.foldlM_append

/-- New events carry the waveform on from where it stood. -/
theorem wave_of_hist {es : List Event} {w w' : Wave} (hw : s.wave = some w) (hc : t.cfg = s.cfg)
    (hh : t.hist = s.hist ++ es) (hrun : Wave.run s.cfg.tSettleNs w es = some w') : t.wave = some w' := by
  rw [State.wave, hc, hh, wave_run_append, ← State.wave, hw]
  exact hrun

/-- Pulses take a low clock to a low clock, one count each, up to the sixteenth (R104). -/
theorem wave_run_pulseEvents (ts n : Nat) (v : RawSample) (ds : List Bool) (hn : n + ds.length ≤ 16) :
    Wave.run ts (.low n) (pulseEvents ts n v ds) = some (.low (n + ds.length)) := by
  induction ds generalizing n v with
  | nil => rfl
  | cons d ds ih =>
    simp only [List.length_cons] at hn
    have one : n < Config.rawBits := by simp only [Config.rawBits]; omega
    rw [pulseEvents, wave_run_append, List.length_cons, show n + (ds.length + 1) = n + 1 + ds.length by omega,
      ← ih (n + 1) (setSampleBit v n d) (by omega)]
    simp [Wave.run, Wave.next, one]

/-- A transaction is a whole frame (R112). -/
theorem wave_run_transactionEvents (ts : Nat) (ds : List Bool) (hd : ds.length = 16) :
    Wave.run ts .idle (transactionEvents ts ds) = some .idle := by
  rw [transactionEvents, wave_run_append, wave_run_append]
  have pulses := wave_run_pulseEvents ts 0 0 ds (by omega)
  rw [hd] at pulses
  show ((Wave.run ts (.low 0) (pulseEvents ts 0 0 ds)).bind _) = _
  rw [pulses]
  rfl

/-! Where the registers say that the waveform stands. -/

theorem waveOfRegs_idle (h : s.plPhase = plIdle) : s.waveOfRegs = .idle := by simp [State.waveOfRegs, h]
theorem waveOfRegs_high (h : s.plPhase = plHigh) : s.waveOfRegs = .low s.bitcnt.toNat := by
  simp [State.waveOfRegs, h]
theorem waveOfRegs_sample (h : s.plPhase = plSample) : s.waveOfRegs = .high s.bitcnt.toNat := by
  simp [State.waveOfRegs, h]
theorem waveOfRegs_low (h : s.plPhase = plLow) : s.waveOfRegs = .sampled s.bitcnt.toNat := by
  simp [State.waveOfRegs, h]
theorem waveOfRegs_release (h : s.plPhase = plRelease) : s.waveOfRegs = .low Config.rawBits := by
  simp [State.waveOfRegs, h]

/-! A started block between two transactions. -/

/-- What the invariant says of a started block with no transaction in progress, `phase` apart. -/
structure State.AtRest (s : State) : Prop where
  config : s.cfg.wf = true
  noBench : s.bench = []
  temperatureRange : s.currentTemperature.toNat ≤ 500
  actuatorOff : s.act = false
  configured : s.plCfg = true ∧ s.csDir = .output ∧ s.clkDir = .output ∧ s.dataDir = .input
  noTransaction : s.plPhase = plIdle
  waveform : s.wave = some .idle
  levels : s.cs = true ∧ s.clk = false

theorem State.AtRest.running (h : s.AtRest) (hstart : s.phase ≠ phaseStart) (hlegal : s.phase.toNat ≤ 4) : s.Running where
  config := h.config
  noBench := h.noBench
  phaseLegal := hlegal
  plPhaseLegal := by simp [h.noTransaction]
  transactionInSensor hq := absurd h.noTransaction hq
  temperatureRange := h.temperatureRange
  actuatorOff := h.actuatorOff
  beforeStart hp := absurd hp hstart
  configured _ := h.configured
  waveform _ := by rw [waveOfRegs_idle h.noTransaction, h.waveform]
  pulseCount hq := by simp [h.noTransaction] at hq
  levels _ := by simp [h.noTransaction, h.levels]

theorem State.Running.atRest (h : s.Running) (hstart : s.phase ≠ phaseStart) (hq : s.plPhase = plIdle) : s.AtRest where
  config := h.config
  noBench := h.noBench
  temperatureRange := h.temperatureRange
  actuatorOff := h.actuatorOff
  configured := h.configured hstart
  noTransaction := hq
  waveform := by rw [h.waveform hstart, waveOfRegs_idle hq]
  levels := by simpa [hq] using h.levels hstart

namespace State.AtRest

theorem readClock (h : s.AtRest) : s.readClock.AtRest := { h with waveform := wave_of_hist h.waveform rfl rfl rfl }
theorem readReq (h : s.AtRest) : s.readReq.AtRest := { h with waveform := wave_of_hist h.waveform rfl rfl rfl }
theorem delay (h : s.AtRest) (n : Nat) : (s.delay n).AtRest := { h with waveform := wave_of_hist h.waveform rfl rfl rfl }
theorem writePhase (h : s.AtRest) (p : SeqCode) : (s.writePhase p).AtRest :=
  { h with waveform := wave_of_hist h.waveform rfl rfl rfl }
theorem writeRequested (h : s.AtRest) (b : Bool) : (s.writeRequested b).AtRest :=
  { h with waveform := wave_of_hist h.waveform rfl rfl rfl }
theorem writeLastSensor (h : s.AtRest) (now : Ms) : (s.writeLastSensor now).AtRest :=
  { h with waveform := wave_of_hist h.waveform rfl rfl rfl }
theorem writeLastAct (h : s.AtRest) (now : Ms) : (s.writeLastAct now).AtRest :=
  { h with waveform := wave_of_hist h.waveform rfl rfl rfl }
theorem startTimers (h : s.AtRest) : s.startTimers.AtRest := (h.readClock.writeLastSensor _).writeLastAct _

theorem actPulse (h : s.AtRest) : s.actPulse.AtRest :=
  { h with actuatorOff := rfl, waveform := wave_of_hist h.waveform rfl (actPulse_hist s) rfl }

theorem checkActuator (h : s.AtRest) : s.checkActuator.AtRest := by
  obtain hc | hc | hc := checkActuator_cases s <;> rw [hc]
  · exact h.readClock
  · exact h.readClock.writeLastAct _
  · exact (h.readClock.writeLastAct _).actPulse

theorem transaction (h : s.AtRest) : s.transaction.AtRest := by
  have frame := wave_run_transactionEvents s.cfg.tSettleNs (s.env.drawBits 16) (by simp)
  have waveform := wave_of_hist h.waveform (transaction_cfg s) (transaction_hist s) frame
  rw [transaction_eq] at waveform ⊢
  exact { h with noTransaction := rfl, waveform := waveform, levels := ⟨rfl, rfl⟩ }

theorem finishPoll (h : s.AtRest) : s.finishPoll.AtRest where
  config := by simpa using h.config
  noBench := by simpa using h.noBench
  temperatureRange := (finishPoll_currentTemperature s).elim (fun hc => hc ▸ h.temperatureRange) id
  actuatorOff := by simpa using h.actuatorOff
  configured := by simpa using h.configured
  noTransaction := by simpa using h.noTransaction
  waveform := by
    obtain ⟨-, -, hh⟩ | ⟨c, -, -, -, hh⟩ := finishPoll_report s
    · exact wave_of_hist h.waveform (finishPoll_cfg s) hh rfl
    · exact wave_of_hist h.waveform (finishPoll_cfg s) hh rfl
  levels := by simpa using h.levels

end State.AtRest

/-! CL.START. -/

/-- CL.START up to its clock sample leaves the lines configured and idle, in either order of `begin()` (R151, U7). -/
theorem atRest_begin (hr : s.Running) (hp : s.phase = phaseStart) (hq : s.plPhase = plIdle) :
    (s.clearControl.lineWrite .act false).begin.AtRest where
  config := by simpa [clearControl_eq] using hr.config
  noBench := by simpa [clearControl_eq] using hr.noBench
  temperatureRange := by simp [clearControl_eq]
  actuatorOff := by simp
  configured := by simp
  noTransaction := by simpa [clearControl_eq] using hq
  waveform := by
    have cleared : s.clearControl.wave = some (.cold false false) :=
      wave_of_hist (hr.beforeStart hp) rfl (congrArg State.hist (clearControl_eq s)) rfl
    have off : (s.clearControl.lineWrite .act false).wave = some (.cold false false) :=
      wave_of_hist cleared rfl rfl rfl
    refine wave_of_hist off (begin_cfg _) (by rw [begin_hist, List.append_assoc]) ?_
    split <;> rfl
  levels := by simp

/-! A transaction that the micro-sequencer runs. -/

/-- A micro-operation inside the frame keeps the invariant when its events take the waveform where the registers say. -/
theorem State.Running.micro (hr : s.Running) (hp : s.phase = phaseSensor) (hs : s.plPhase ≠ plIdle)
    {c : Bool} {v : RawSample} {n : BitVec 5} {q : SeqCode} {es : List Event} {e : Env}
    (ht : t = { s with clk := c, shreg := v, bitcnt := n, plPhase := q, hist := s.hist ++ es, env := e })
    (hl : q.toNat ≤ 4) (hq : q ≠ plIdle) (hn : q = plRelease ∨ n.toNat < Config.rawBits)
    (hc : c = decide (q = plSample ∨ q = plLow))
    (hrun : Wave.run s.cfg.tSettleNs s.waveOfRegs es = some t.waveOfRegs) : t.Running := by
  have hstart : s.phase ≠ phaseStart := by simp [hp]
  have waveform : t.wave = some t.waveOfRegs :=
    wave_of_hist (hr.waveform hstart) (by rw [ht]) (by rw [ht]) hrun
  have hcs : s.cs = false := (hr.levels hstart).1.trans (decide_eq_false hs)
  subst ht
  exact { hr with
    plPhaseLegal := hl
    transactionInSensor := fun _ => hp
    beforeStart := fun h => absurd h hstart
    waveform := fun _ => waveform
    pulseCount := fun h => hn.resolve_left (by rintro rfl; simp at h)
    levels := fun _ => ⟨hcs.trans (decide_eq_false hq).symm, hc⟩ }

/-- PL.CLKHI takes the frame from the low clock to the high one (R106). -/
theorem State.Running.clkHi (hr : s.Running) (hp : s.phase = phaseSensor) (hq : s.plPhase = plHigh) :
    s.clkHi.Running := by
  have hn := hr.pulseCount (.inl hq)
  refine hr.micro hp (by simp [hq]) (clkHi_eq s) (by simp) (by simp) (.inr hn) rfl ?_
  rw [waveOfRegs_high hq, waveOfRegs_sample (clkHi_plPhase s), clkHi_bitcnt]
  simp [Wave.run, Wave.next, hn]

/-- PL.SAMPLE takes the frame past the sample of its pulse (R107). -/
theorem State.Running.sample (hr : s.Running) (hp : s.phase = phaseSensor) (hq : s.plPhase = plSample) :
    s.sample.Running := by
  have hn := hr.pulseCount (.inr (.inl hq))
  have hclk : s.clk = true := by simpa [hq] using (hr.levels (by simp [hp])).2
  refine hr.micro hp (by simp [hq]) (sample_eq s hn) (by simp) (by simp) (.inr hn) hclk ?_
  rw [waveOfRegs_sample hq, waveOfRegs_low (sample_plPhase s), sample_bitcnt]
  rfl

/-- PL.CLKLO ends the pulse, and after the sixteenth the frame is complete (R108). -/
theorem State.Running.clkLo (hr : s.Running) (hp : s.phase = phaseSensor) (hq : s.plPhase = plLow) :
    s.clkLo.Running := by
  have hn : s.bitcnt.toNat < 16 := hr.pulseCount (.inr (.inr hq))
  have hcount : (s.bitcnt + 1).toNat = s.bitcnt.toNat + 1 := toNat_bitcnt_succ hn
  have heq := clkLo_eq s (by omega)
  have hrun (es : List Event) : Wave.run s.cfg.tSettleNs s.waveOfRegs
      (.W .clk false :: .D s.cfg.tSettleNs :: .S [(.bitcnt, s.bitcnt.toNat + 1)] :: es) =
      Wave.run s.cfg.tSettleNs (.low (s.bitcnt.toNat + 1)) es := by
    rw [waveOfRegs_low hq]
    simp [Wave.run, Wave.next]
  by_cases h15 : s.bitcnt.toNat = 15
  · rw [if_pos h15, if_pos h15] at heq
    refine hr.micro hp (by simp [hq]) heq (by simp) (by simp) (.inl rfl) rfl ((hrun _).trans ?_)
    rw [waveOfRegs_release (by rw [heq]), h15]
    rfl
  · rw [if_neg h15, if_neg h15] at heq
    refine hr.micro hp (by simp [hq]) heq (by simp) (by simp) (.inr ?_) rfl ((hrun _).trans ?_)
    · rw [hcount, Config.rawBits]; omega
    · rw [waveOfRegs_high (by rw [heq]), heq, hcount]
      rfl

/-- PL.CSRELEASE ends the frame (R109). -/
theorem State.Running.csRelease (hr : s.Running) (hp : s.phase = phaseSensor) (hq : s.plPhase = plRelease) :
    s.csRelease.AtRest := by
  have hstart : s.phase ≠ phaseStart := by simp [hp]
  have waveform : s.csRelease.wave = some .idle :=
    wave_of_hist (hr.waveform hstart) (csRelease_cfg s) (csRelease_hist s) (by rw [waveOfRegs_release hq]; rfl)
  rw [csRelease_eq] at waveform ⊢
  exact { hr with
    configured := hr.configured hstart
    noTransaction := rfl
    waveform := waveform
    levels := ⟨rfl, by simpa [hq] using (hr.levels hstart).2⟩ }

/-! The steps of the fixed program. -/

/-- The steps of the fixed program: a phase, or a micro-operation of a transaction in phase SENSOR (R21, R22). -/
inductive State.Advances (s : State) : State → Prop
  | start (hp : s.phase = phaseStart) (hq : s.plPhase = plIdle) :
      s.Advances (((s.clearControl.lineWrite .act false).begin.startTimers).writePhase phaseInput)
  | input (hp : s.phase = phaseInput) (hq : s.plPhase = plIdle) :
      s.Advances ((s.readReq.writeRequested s.reqBit).writePhase phaseSensor)
  | wait (hp : s.phase = phaseSensor) (hq : s.plPhase = plIdle) : s.Advances (s.readClock.writePhase phaseAct)
  | poll (hp : s.phase = phaseSensor) (hq : s.plPhase = plIdle) :
      s.Advances (s.readClock.writeLastSensor s.clockNow).transaction.finishPoll
  | act (hp : s.phase = phaseAct) (hq : s.plPhase = plIdle) : s.Advances (s.checkActuator.writePhase phaseIdle)
  | idle (hp : s.phase = phaseIdle) (hq : s.plPhase = plIdle) :
      s.Advances ((s.delay s.cfg.tIdleNs).writePhase phaseInput)
  | clkHi (hp : s.phase = phaseSensor) (hq : s.plPhase = plHigh) : s.Advances s.clkHi
  | sample (hp : s.phase = phaseSensor) (hq : s.plPhase = plSample) : s.Advances s.sample
  | clkLo (hp : s.phase = phaseSensor) (hq : s.plPhase = plLow) : s.Advances s.clkLo
  | release (hp : s.phase = phaseSensor) (hq : s.plPhase = plRelease) : s.Advances s.csRelease.finishPoll

/-- A step of the fixed program is one of these. -/
theorem State.Running.advances (hr : s.Running) (h : step s = .next t) : s.Advances t := by
  have phase {i : Instr} (hq : s.plPhase = plIdle) (hi : phaseOp s.phase = some i) : exec i s = .next t :=
    (step_eq_exec_phaseOp hr.config hr.noBench hr.phaseLegal hq hi).symm.trans h
  have micro {i : Instr} (hi : microOp s.plPhase = some i) (hn : s.plPhase ≠ plRelease) : exec i s = .next t :=
    (step_eq_exec_microOp hr.config hr.noBench hr.phaseLegal hr.plPhaseLegal hi (fun hc => hn hc.1)).symm.trans h
  have sensor : s.plPhase ≠ plIdle → s.phase = phaseSensor := hr.transactionInSensor
  obtain hq | hq | hq | hq | hq := seqCode_cases s.plPhase hr.plPhaseLegal
  · obtain hp | hp | hp | hp | hp := seqCode_cases s.phase hr.phaseLegal
    · cases phase hq (i := .clStart) (by rw [hp]; rfl)
      exact .start hp hq
    · cases phase hq (i := .clInput) (by rw [hp]; rfl)
      exact .input hp hq
    · obtain ⟨-, -, rfl⟩ | ⟨-, rfl⟩ := execClSensor_next (phase hq (i := .clSensor) (by rw [hp]; rfl))
      · exact .poll hp hq
      · exact .wait hp hq
    · cases phase hq (i := .clAct) (by rw [hp]; rfl)
      exact .act hp hq
    · cases phase hq (i := .clIdle) (by rw [hp]; rfl)
      exact .idle hp hq
  · cases micro (i := .plClkhi) (by rw [hq]; rfl) (by simp [hq])
    exact .clkHi (sensor (by simp [hq])) hq
  · cases micro (i := .plSample) (by rw [hq]; rfl) (by simp [hq])
    exact .sample (sensor (by simp [hq])) hq
  · cases micro (i := .plClklo) (by rw [hq]; rfl) (by simp [hq])
    exact .clkLo (sensor (by simp [hq])) hq
  · have hp := sensor (by simp [hq])
    cases (step_eq_finishPoll hr.config hr.noBench hr.phaseLegal hq hp).symm.trans h
    exact .release hp hq

/-- Settles O53: a phase leads from rest to rest, and a micro-operation goes on in the frame. -/
theorem stepKeepsTheProgramRunning : Obligations.StepKeepsTheProgramRunning := by
  intro s t hr h
  have rest (p : SeqCode) (hp : s.phase = p) (hp0 : p ≠ phaseStart) (hq : s.plPhase = plIdle) : s.AtRest :=
    hr.atRest (hp ▸ hp0) hq
  cases hr.advances h with
  | start hp hq =>
    exact ((atRest_begin hr hp hq).startTimers.writePhase _).running (by simp) (by simp)
  | input hp hq =>
    exact (((rest _ hp (by simp) hq).readReq.writeRequested _).writePhase _).running (by simp) (by simp)
  | wait hp hq => exact ((rest _ hp (by simp) hq).readClock.writePhase _).running (by simp) (by simp)
  | poll hp hq =>
    have polled := ((rest _ hp (by simp) hq).readClock.writeLastSensor s.clockNow).transaction.finishPoll
    exact polled.running (by simp) (by simp)
  | act hp hq => exact ((rest _ hp (by simp) hq).checkActuator.writePhase _).running (by simp) (by simp)
  | idle hp hq => exact (((rest _ hp (by simp) hq).delay _).writePhase _).running (by simp) (by simp)
  | clkHi hp hq => exact hr.clkHi hp hq
  | sample hp hq => exact hr.sample hp hq
  | clkLo hp hq => exact hr.clkLo hp hq
  | release hp hq => exact (hr.csRelease hp hq).finishPoll.running (by simp) (by simp)

/-- Settles O55: each step of the fixed program writes the next phase, or leaves it inside a frame. -/
theorem phasesSucceedInOrder : Obligations.PhasesSucceedInOrder := by
  intro s t hr h
  cases hr.advances h with
  | start hp hq | input hp hq | wait hp hq | poll hp hq | act hp hq | idle hp hq | clkHi hp hq | sample hp hq
  | clkLo hp hq | release hp hq => simp [hp, hq]

/-! Power-on. -/

/-- Power-on is a state of the fixed program: nothing is driven and nothing has happened (R37, R231). -/
theorem running_reset : State.reset.Running where
  config := by decide
  noBench := rfl
  phaseLegal := by decide
  plPhaseLegal := by decide
  transactionInSensor hq := absurd rfl hq
  temperatureRange := by decide
  actuatorOff := rfl
  beforeStart _ := rfl
  configured hp := absurd rfl hp
  waveform hp := absurd rfl hp
  pulseCount hq := by simp [State.reset] at hq
  levels hp := absurd rfl hp

/-- Settles O52: the history of the reset state is empty. -/
theorem resetMeetsTheInvariants : Obligations.ResetMeetsTheInvariants :=
  ⟨running_reset, fun _ _ h => (nomatch h), fun _ _ h => (nomatch h)⟩

/-- No line has a level after a restart (R231, log 2). -/
theorem lineLevel_restart (s : State) (l : OutLine) : s.restart.lineLevel l = none := by cases l <;> rfl

/-- Settles O9: the sequencer's choice at reset does not read the environment. -/
theorem powerOnStartsAtClStart : Obligations.PowerOnStartsAtClStart := by
  refine ⟨rfl, rfl, rfl, lineLevel_restart State.reset, rfl, rfl, fun e => ?_, fun s => ?_⟩
  · exact step_eq_exec_phaseOp running_reset.config rfl (by simp [State.reset]) rfl rfl
  · exact ⟨rfl, rfl, rfl, rfl, lineLevel_restart s⟩

end Sys2Proof.Machine
end

section
/-! Every operation is a run of primitive accesses in which the clock is sampled at most once; what one access does to
the history, the lines, the registers and the clock carries over to operations and steps (R55, R58, R60, R62). -/

namespace Sys2Proof.Machine

variable {s t u : State} {i : Instr}

/-! The last write in a history that has grown. -/

theorem lastWrite_append (l : OutLine) (a b : List Event) :
    lastWrite l (a ++ b) = (lastWrite l b).or (lastWrite l a) := by
  have cons (e : Event) (h : List Event) : lastWrite l (e :: h) = (lastWrite l h).or (lastWrite l [e]) := by
    cases hl : lastWrite l h <;> simp [lastWrite, hl]
  induction a with
  | nil => simp [lastWrite]
  | cons e a ih => rw [List.cons_append, cons, cons e a, ih, Option.or_assoc]

theorem lastValue_append (r : Reg) (a b : List Event) :
    lastValue r (a ++ b) = (lastValue r b).or (lastValue r a) := by
  have cons (e : Event) (h : List Event) : lastValue r (e :: h) = (lastValue r h).or (lastValue r [e]) := by
    cases hl : lastValue r h <;> simp [lastValue, hl]
  induction a with
  | nil => simp [lastValue]
  | cons e a ih => rw [List.cons_append, cons, cons e a, ih, Option.or_assoc]

/-- `t` comes after `s` by the events `new`: they tell every change of a line latch and of a register, and the
configuration and the bench are the same. -/
structure State.Follows (s t : State) (new : List Event) : Prop where
  hist : t.hist = s.hist ++ new
  latch : ∀ l, t.latch l = (lastWrite l new).getD (s.latch l)
  reg : ∀ r, t.regValue r = (lastValue r new).getD (s.regValue r)
  cfg : t.cfg = s.cfg
  bench : t.bench = s.bench

namespace State.Follows

variable {a b : List Event}

theorem refl (s : State) : s.Follows s [] where
  hist := (List.append_nil _).symm
  latch _ := rfl
  reg _ := rfl
  cfg := rfl
  bench := rfl

theorem trans (h : s.Follows t a) (h' : t.Follows u b) : s.Follows u (a ++ b) where
  hist := by rw [h'.hist, h.hist, List.append_assoc]
  latch l := by rw [h'.latch, h.latch, lastWrite_append, Option.getD_or]
  reg r := by rw [h'.reg, h.reg, lastValue_append, Option.getD_or]
  cfg := h'.cfg.trans h.cfg
  bench := h'.bench.trans h.bench

theorem keeps_linesMatchHistory (h : s.Follows t a) (hs : s.LinesMatchHistory) : t.LinesMatchHistory := by
  intro l b hb
  rw [h.hist, lastWrite_append] at hb
  rw [h.latch]
  cases hl : lastWrite l a with
  | some c => simpa [hl] using hb
  | none => exact hs l b (by simpa [hl] using hb)

theorem keeps_registersMatchHistory (h : s.Follows t a) (hs : s.RegistersMatchHistory) :
    t.RegistersMatchHistory := by
  intro r v hv
  rw [h.hist, lastValue_append] at hv
  rw [h.reg]
  cases hl : lastValue r a with
  | some w => simpa [hl] using hv
  | none => exact hs r v (by simpa [hl] using hv)

end State.Follows

/-- One primitive access other than a sample of the clock. -/
inductive State.Access (s : State) : State → Prop
  | line (l : OutLine) (b : Bool) : s.Access (s.lineWrite l b)
  | data : s.Access s.readData
  | req : s.Access s.readReq
  | delay (n : Nat) : s.Access (s.delay n)
  | phase (p : SeqCode) : s.Access (s.writePhase p)
  | plPhase (p : SeqCode) : s.Access (s.writePlPhase p)
  | plCfg (b : Bool) : s.Access (s.writePlCfg b)
  | shreg (v : RawSample) : s.Access (s.writeShreg v)
  | bitcnt (n : BitVec 5) : s.Access (s.writeBitcnt n)
  | temperature (d : Degrees) : s.Access (s.writeTemperature d)
  | requested (b : Bool) : s.Access (s.writeRequested b)
  | notConnected (b : Bool) : s.Access (s.writeNotConnected b)
  | report (d : Degrees) (b : Bool) : s.Access (s.writeReport d b)
  | lastSensor (now : Ms) : s.Access (s.writeLastSensor now)
  | lastAct (now : Ms) : s.Access (s.writeLastAct now)
  | configure : s.Access s.configureLines
  | free : s.Access s.takeFree
  | result (r : Reading) (n : Int) (c : Degrees) : s.Access { s with reading := r, rounded := n, clamped := c }

/-- `t` comes after `s` by events without a sample of the clock, and the clock stands still between them. -/
def State.Still (s t : State) : Prop :=
  ∃ new, s.Follows t new ∧ (∀ now, .T now ∉ new) ∧ t.env.ms = s.env.ms

/-- An access appends one event at most, which tells all that it changes. -/
theorem State.Access.still (h : s.Access t) : s.Still t := by
  cases h with
  | line l b => cases l <;> exact ⟨[_], ⟨rfl, by rintro ⟨⟩ <;> rfl, by rintro ⟨⟩ <;> rfl, rfl, rfl⟩, by simp, rfl⟩
  | data =>
    exact ⟨[_], ⟨rfl, by rintro ⟨⟩ <;> rfl, by rintro ⟨⟩ <;> rfl, rfl, rfl⟩, by simp, (Env.popData_frame s.env).1⟩
  | req =>
    exact ⟨[_], ⟨rfl, by rintro ⟨⟩ <;> rfl, by rintro ⟨⟩ <;> rfl, rfl, rfl⟩, by simp, (Env.popReq_frame s.env).1⟩
  | delay | phase | plPhase | plCfg | shreg | bitcnt | temperature | requested | notConnected | report | lastSensor
  | lastAct => exact ⟨[_], ⟨rfl, by rintro ⟨⟩ <;> rfl, by rintro ⟨⟩ <;> rfl, rfl, rfl⟩, by simp, rfl⟩
  | configure | free | result =>
    exact ⟨[], ⟨by simp [State.configureLines, State.takeFree], fun _ => rfl, fun _ => rfl, rfl, rfl⟩, by simp, rfl⟩

/-- A sample of the clock is one event, and changes no line and no register (R58). -/
theorem follows_readClock (s : State) : s.Follows s.readClock [.T s.clockNow] :=
  ⟨rfl, fun _ => rfl, fun _ => rfl, rfl, rfl⟩

/-! Runs of accesses. -/

open Relation.ReflTransGen (single)

/-- `t` comes after `s` by accesses other than samples of the clock. -/
abbrev State.Reaches : State → State → Prop := Relation.ReflTransGen State.Access

theorem State.Reaches.still (h : s.Reaches t) : s.Still t := by
  induction h with
  | refl => exact ⟨[], .refl s, by simp, rfl⟩
  | tail _ hx ih =>
    obtain ⟨a, ha, hna, hma⟩ := ih
    obtain ⟨b, hb, hnb, hmb⟩ := hx.still
    exact ⟨a ++ b, ha.trans hb, fun now h => (List.mem_append.1 h).elim (hna now) (hnb now), hmb.trans hma⟩

theorem reaches_begin (s : State) : s.Reaches s.begin := by
  have idle (u : State) : u.Reaches u.idleLines := by
    unfold State.idleLines
    split
    · exact ((single .free).tail (.line .clk false)).tail (.line .cs true)
    · exact ((single .free).tail (.line .cs true)).tail (.line .clk false)
  exact ((single .configure).trans (idle _)).tail (.plCfg true)

theorem reaches_csAssert (s : State) : s.Reaches s.csAssert :=
  (((single (.line .cs false)).tail (.shreg 0)).tail (.bitcnt 0)).tail (.plPhase plHigh)

theorem reaches_clkHi (s : State) : s.Reaches s.clkHi :=
  ((single (.line .clk true)).tail (.delay _)).tail (.plPhase plSample)

theorem reaches_sample (s : State) : s.Reaches s.sample := by
  have store (u : State) (d : Bool) : u.Reaches (u.storeSample d) := by
    unfold State.storeSample
    split
    · exact single (.shreg _)
    · exact (single .free).tail (.shreg _)
  exact ((single .data).trans (store _ _)).tail (.plPhase plLow)

theorem reaches_clkLo (s : State) : s.Reaches s.clkLo := by
  have count (u : State) : u.Reaches u.countPulse := by
    unfold State.countPulse
    split
    · exact single (.bitcnt _)
    · exact (single .free).tail (.bitcnt _)
  exact (((single (.line .clk false)).tail (.delay _)).trans (count _)).tail (.plPhase _)

theorem reaches_csRelease (s : State) : s.Reaches s.csRelease :=
  (single (.line .cs true)).tail (.plPhase plIdle)

theorem reaches_pulses (n : Nat) (s : State) : s.Reaches (State.pulses n s) := by
  induction n generalizing s with
  | zero => exact .refl
  | succ n ih =>
    have pulse : s.Reaches s.pulse := ((reaches_clkHi s).trans (reaches_sample _)).trans (reaches_clkLo _)
    exact pulse.trans (ih s.pulse)

theorem reaches_transaction (s : State) : s.Reaches s.transaction :=
  ((reaches_csAssert s).trans (reaches_pulses _ _)).trans (reaches_csRelease _)

theorem reaches_actPulse (s : State) : s.Reaches s.actPulse :=
  ((single (.line .act true)).tail (.delay _)).tail (.line .act false)

theorem reaches_roundReading (s : State) : s.Reaches s.roundReading := by
  unfold State.roundReading
  split
  · exact single (.result _ _ _)
  · exact (single .free).tail (.result _ _ _)

theorem reaches_finishPoll (s : State) : s.Reaches s.finishPoll := by
  have service (u : State) : u.Reaches u.serviceReading := by
    unfold State.serviceReading
    split
    · exact single (.notConnected true)
    · exact ((reaches_roundReading u).tail (.result _ _ _)).tail (.report _ false)
  exact ((single (.result _ _ _)).trans (service _)).tail (.phase phaseAct)

/-- What CL.ACT does once it has sampled the clock. -/
theorem readClock_reaches_checkActuator (s : State) : s.readClock.Reaches s.checkActuator := by
  obtain h | h | h := checkActuator_cases s <;> rw [h]
  · exact single (.lastAct _)
  · exact (single (.lastAct _)).trans (reaches_actPulse _)

/-- An operation is a run of accesses with one sample of the clock at most, which R151, R153 and R156 ask for. -/
theorem exec_reaches (h : exec i s = .next t) :
    s.Reaches t ∨ ∃ u, s.Reaches u ∧ u.readClock.Reaches t := by
  cases i with
  | clStart =>
    cases h
    refine .inr ⟨(s.clearControl.lineWrite .act false).begin, ?_, ?_⟩
    · exact ((((single (.temperature 0)).tail (.requested false)).tail (.notConnected false)).tail
        (.line .act false)).trans (reaches_begin _)
    · exact ((single (.lastSensor _)).tail (.lastAct _)).tail (.phase phaseInput)
  | clSensor =>
    refine .inr ⟨s, .refl, ?_⟩
    obtain ⟨-, -, rfl⟩ | ⟨-, rfl⟩ := execClSensor_next h
    · exact ((single (.lastSensor _)).trans (reaches_transaction _)).trans (reaches_finishPoll _)
    · exact single (.phase phaseAct)
  | clAct => cases h; exact .inr ⟨s, .refl, (readClock_reaches_checkActuator s).tail (.phase phaseIdle)⟩
  | clInput => cases h; exact .inl (((single .req).tail (.requested _)).tail (.phase phaseSensor))
  | clIdle => cases h; exact .inl ((single (.delay _)).tail (.phase phaseInput))
  | plBegin => cases h; exact .inl (reaches_begin s)
  | plReadraw =>
    obtain ⟨-, rfl⟩ := (readRaw_eq_next s).1 h
    exact .inl (reaches_transaction s)
  | plCsassert => cases h; exact .inl (reaches_csAssert s)
  | plClkhi => cases h; exact .inl (reaches_clkHi s)
  | plSample => cases h; exact .inl (reaches_sample s)
  | plClklo => cases h; exact .inl (reaches_clkLo s)
  | plCsrelease => cases h; exact .inl (reaches_csRelease s)
  | tdRound => cases h; exact .inl (reaches_roundReading s)
  | adPulse => cases h; exact .inl (reaches_actPulse s)
  | tdDecode | tdClamp | rawFault | rawTemp => cases h; exact .inl (single (.result _ _ _))

/-- An operation follows by events that tell its changes; each clock sample among them is the count it ends at, and
without one the clock stands still (R58, R62). -/
theorem exec_follows (h : exec i s = .next t) : ∃ new, s.Follows t new ∧ s.env.ms ≤ t.env.ms ∧
    (∀ now, .T now ∈ new → now = t.env.now) ∧ ((∀ now, .T now ∉ new) → t.env.ms = s.env.ms) := by
  obtain h | ⟨u, hu, ht⟩ := exec_reaches h
  · obtain ⟨new, hf, hn, hms⟩ := h.still
    exact ⟨new, hf, hms.ge, fun now hm => absurd hm (hn now), fun _ => hms⟩
  · obtain ⟨a, hfa, hna, hma⟩ := hu.still
    obtain ⟨b, hfb, hnb, hmb⟩ := ht.still
    refine ⟨_, (hfa.trans (follows_readClock u)).trans hfb, ?_, fun now hm => ?_, fun hn => ?_⟩
    · have hadv : u.readClock.env.ms = u.env.ms + u.env.advance := (Env.popClock_frame u.env).1
      omega
    · have hnow : now = u.clockNow := by simpa [hna, hnb] using hm
      rw [hnow, State.clockNow, Env.now, Env.now, hmb, readClock_env]
    · exact absurd (by simp) (hn u.clockNow)

/-- What is kept wherever the events tell all changes, every step keeps. -/
theorem step_keeps_of_follows {P : State → Prop} (hbench : ∀ s rest, P s → P { s with bench := rest })
    (hP : ∀ {s t new}, s.Follows t new → P s → P t) (hs : P s) (h : step s = .next t) : P t := by
  refine step_keeps hbench (fun i s t hs hx => ?_) (fun s hs => ?_) hs h
  · obtain ⟨new, hf, -⟩ := exec_follows hx
    exact hP hf hs
  · obtain ⟨new, hf, -⟩ := (reaches_finishPoll s).still
    exact hP hf hs

/-- Settles O50: a line's last write among the new events is its latch, and a line without one keeps both. -/
theorem stepKeepsLinesMatchingHistory : Obligations.StepKeepsLinesMatchingHistory := fun _ _ =>
  step_keeps_of_follows (fun _ _ hs => hs) State.Follows.keeps_linesMatchHistory

/-- Settles O51: a register's last write among the new events is its value, and a register without one keeps both. -/
theorem stepKeepsRegistersMatchingHistory : Obligations.StepKeepsRegistersMatchingHistory := fun _ _ =>
  step_keeps_of_follows (fun _ _ hs => hs) State.Follows.keeps_registersMatchHistory

/-- Settles O45: a bench word is taken off before the operation runs, and no operation touches either field. -/
theorem configurationIsFixed : Obligations.ConfigurationIsFixed := by
  have keeps (i : Instr) (s t : State) (h : exec i s = .next t) : t.cfg = s.cfg ∧ t.bench = s.bench := by
    obtain ⟨new, hf, -⟩ := exec_follows h
    exact ⟨hf.cfg, hf.bench⟩
  refine ⟨fun s t h => ?_, keeps⟩
  obtain ⟨-, -, -, ⟨c, rest, i, hb, -, hx⟩ | ⟨hb, i, -, ⟨-, -, u, hx, rfl⟩ | ⟨-, hx⟩⟩ | ⟨hb, -, i, -, hx⟩⟩ :=
    step_next h <;> simpa [hb] using keeps i _ _ hx

/-- Settles O46: a clock sample is the low 32 bits of the count it stands at. -/
theorem clockIsMonotone : Obligations.ClockIsMonotone := by
  intro i s t h
  obtain ⟨new, hf, hle, hnow, hstill⟩ := exec_follows h
  exact ⟨hle, new, hf.hist, fun now hm => by rw [hnow now hm, Env.now, BitVec.toNat_ofNat], hstill⟩

end Sys2Proof.Machine
end

section
/-! What an operation leaves as it is: the registers, lines and directions that are not its own (10_state.md section 1,
R51, R52). -/

namespace Sys2Proof.Machine

theorem Reg.forall_iff {P : Reg → Prop} : (∀ r, P r) ↔ P .phase ∧ P .plPhase ∧ P .plCfg ∧ P .shreg ∧ P .bitcnt ∧
    P .currentTemperature ∧ P .actuatorRequested ∧ P .notConnected ∧ P .lastSensor ∧ P .lastAct :=
  ⟨fun h => ⟨h _, h _, h _, h _, h _, h _, h _, h _, h _, h _⟩,
    fun ⟨h0, h1, h2, h3, h4, h5, h6, h7, h8, h9⟩ r => by cases r <;> assumption⟩

theorem OutLine.forall_iff {P : OutLine → Prop} : (∀ l, P l) ↔ P .cs ∧ P .clk ∧ P .act :=
  ⟨fun h => ⟨h _, h _, h _⟩, fun ⟨h0, h1, h2⟩ l => by cases l <;> assumption⟩

/-- Settles O43: each operation against its rows of the two tables. -/
theorem onlyNamedWritersChangeARegister : Obligations.OnlyNamedWritersChangeARegister := by
  intro i s t h
  simp only [Reg.forall_iff, OutLine.forall_iff, State.regValue, State.latch]
  cases i with
  | clStart => cases h; simp [writes, drives, startTimers_eq, clearControl_eq]
  | clSensor => obtain ⟨-, -, rfl⟩ | ⟨-, rfl⟩ := execClSensor_next h <;> simp [writes, drives]
  | clAct =>
    cases h
    obtain hc | hc | hc := checkActuator_cases s <;> simp [hc, writes, drives]
  | plReadraw =>
    obtain ⟨-, rfl⟩ := (readRaw_eq_next s).1 h
    simp [writes, drives]
  | tdRound =>
    cases h
    obtain ⟨n, e, hr⟩ := roundReading_frame s
    simp [hr]
  | clInput | clIdle | plBegin | tdDecode | plCsassert | plClkhi | plSample | plClklo | plCsrelease | tdClamp
  | adPulse | rawFault | rawTemp => cases h; simp [writes, drives]

/-- Settles O1: one line at a time, and a level that the latch holds is written over itself. -/
theorem lineWriteSetsTheLatch : Obligations.LineWriteSetsTheLatch := by
  refine ⟨fun s l b => ?_, fun s l => ?_⟩
  · cases l <;> simp [OutLine.forall_iff, State.latch, State.regValue]
  · cases l <;> rfl

end Sys2Proof.Machine
end

section
/-! No operation reads the history (R62): it runs alike with other events in front of those that it has. -/

namespace Sys2Proof.Machine

variable (s : State) (g : List Event)

/-- The state with the events `g` in front of its history. -/
def State.prepend : State := { s with hist := g ++ s.hist }

@[simp] theorem prepend_cfg : (s.prepend g).cfg = s.cfg := rfl
@[simp] theorem prepend_plCfg : (s.prepend g).plCfg = s.plCfg := rfl
@[simp] theorem prepend_actuatorRequested : (s.prepend g).actuatorRequested = s.actuatorRequested := rfl
@[simp] theorem prepend_lastSensor : (s.prepend g).lastSensor = s.lastSensor := rfl
@[simp] theorem prepend_lastAct : (s.prepend g).lastAct = s.lastAct := rfl
@[simp] theorem prepend_reqBit : (s.prepend g).reqBit = s.reqBit := rfl
@[simp] theorem prepend_clockNow : (s.prepend g).clockNow = s.clockNow := rfl

/-! The accesses and the shared operations go past the prepended events. -/

@[simp] theorem prepend_lineWrite (l : OutLine) (b : Bool) :
    (s.prepend g).lineWrite l b = (s.lineWrite l b).prepend g := by
  cases l <;> simp [State.prepend, State.lineWrite]
@[simp] theorem prepend_readReq : (s.prepend g).readReq = s.readReq.prepend g := by
  simp [State.prepend, State.readReq, State.reqBit]
@[simp] theorem prepend_readClock : (s.prepend g).readClock = s.readClock.prepend g := by
  simp [State.prepend, State.readClock, State.clockNow]
@[simp] theorem prepend_delay (n : Nat) : (s.prepend g).delay n = (s.delay n).prepend g := by
  simp [State.prepend, State.delay]
@[simp] theorem prepend_writePhase (p : SeqCode) : (s.prepend g).writePhase p = (s.writePhase p).prepend g := by
  simp [State.prepend, State.writePhase]
@[simp] theorem prepend_writeRequested (b : Bool) :
    (s.prepend g).writeRequested b = (s.writeRequested b).prepend g := by
  simp [State.prepend, State.writeRequested]
@[simp] theorem prepend_writeLastSensor (now : Ms) :
    (s.prepend g).writeLastSensor now = (s.writeLastSensor now).prepend g := by
  simp [State.prepend, State.writeLastSensor]
@[simp] theorem prepend_writeLastAct (now : Ms) :
    (s.prepend g).writeLastAct now = (s.writeLastAct now).prepend g := by
  simp [State.prepend, State.writeLastAct]
@[simp] theorem prepend_clearControl : (s.prepend g).clearControl = s.clearControl.prepend g := by
  simp [State.prepend, clearControl_eq]
@[simp] theorem prepend_begin : (s.prepend g).begin = s.begin.prepend g := by
  simp [State.prepend, begin_eq]
@[simp] theorem prepend_csAssert : (s.prepend g).csAssert = s.csAssert.prepend g := by
  simp [State.prepend, csAssert_eq]
@[simp] theorem prepend_clkHi : (s.prepend g).clkHi = s.clkHi.prepend g := by
  simp [State.prepend, clkHi_eq]
@[simp] theorem prepend_csRelease : (s.prepend g).csRelease = s.csRelease.prepend g := by
  simp [State.prepend, csRelease_eq]
@[simp] theorem prepend_transaction : (s.prepend g).transaction = s.transaction.prepend g := by
  simp [State.prepend, transaction_eq]
@[simp] theorem prepend_actPulse : (s.prepend g).actPulse = s.actPulse.prepend g := by
  simp [State.prepend, actPulse_eq]

@[simp] theorem prepend_sample : (s.prepend g).sample = s.sample.prepend g := by
  obtain h | h := Nat.lt_or_ge s.bitcnt.toNat 16
  · rw [sample_eq s h, sample_eq (s.prepend g) h]
    simp [State.prepend, State.dataBit]
  · rw [sample_eq_of_le s h, sample_eq_of_le (s.prepend g) h]
    simp [State.prepend, State.dataBit]

@[simp] theorem prepend_clkLo : (s.prepend g).clkLo = s.clkLo.prepend g := by
  obtain h | h : s.bitcnt.toNat < 31 ∨ s.bitcnt.toNat = 31 := by omega
  · rw [clkLo_eq s h, clkLo_eq (s.prepend g) h]
    by_cases h15 : s.bitcnt.toNat = 15 <;> simp [State.prepend, h15]
  · rw [clkLo_eq_of_31 s h, clkLo_eq_of_31 (s.prepend g) h]
    by_cases h16 : (Config.freeBitcnt s.env.draws).toNat = 16 <;> simp [State.prepend, h16]

@[simp] theorem prepend_roundReading : (s.prepend g).roundReading = s.roundReading.prepend g := by
  cases h : s.reading with
  | fault => rw [roundReading_fault s h, roundReading_fault (s.prepend g) h]; rfl
  | temp q => rw [roundReading_temp s q h, roundReading_temp (s.prepend g) q h]; rfl

@[simp] theorem prepend_finishPoll : (s.prepend g).finishPoll = s.finishPoll.prepend g := by
  cases h : decodeSample s.shreg with
  | fault => rw [finishPoll_fault s h, finishPoll_fault (s.prepend g) h]; simp [State.prepend]
  | temp q => rw [finishPoll_temp s q h, finishPoll_temp (s.prepend g) q h]; simp [State.prepend]

@[simp] theorem prepend_serviceActuator (now : Ms) :
    (s.prepend g).serviceActuator now = (s.serviceActuator now).prepend g := by
  cases h : s.actuatorRequested with
  | false => simp [serviceActuator_idle, h]
  | true => simp [serviceActuator_pulse, h]

@[simp] theorem prepend_checkActuator : (s.prepend g).checkActuator = s.checkActuator.prepend g := by
  simp only [State.checkActuator, prepend_clockNow, prepend_lastAct, prepend_cfg, prepend_readClock]
  split
  · exact prepend_serviceActuator _ g _
  · rfl

@[simp] theorem prepend_readRaw : (s.prepend g).readRaw = onNext s.readRaw (fun t => .next (t.prepend g)) := by
  cases h : s.plCfg <;> simp [State.readRaw, h]

/-- An operation goes past events put in front of its history, refusals included. -/
theorem exec_prepend (i : Instr) :
    exec i (s.prepend g) = onNext (exec i s) (fun t => .next (t.prepend g)) := by
  cases i with
  | clStart => simp [exec, execClStart, State.startTimers]
  | clSensor =>
    simp only [exec, execClSensor, prepend_clockNow, prepend_lastSensor, prepend_cfg, prepend_readClock,
      prepend_writeLastSensor, prepend_readRaw, prepend_writePhase]
    split
    · cases (s.readClock.writeLastSensor s.clockNow).readRaw <;> simp [onNext]
    · rfl
  | plReadraw => exact prepend_readRaw s g
  | clInput => simp [exec, execClInput]
  | clAct => simp [exec, execClAct]
  | clIdle => simp [exec, execClIdle]
  | plBegin => simp [exec, execPlBegin]
  | plCsassert => simp [exec, execPlCsassert]
  | plClkhi => simp [exec, execPlClkhi]
  | plSample => simp [exec, execPlSample]
  | plClklo => simp [exec, execPlClklo]
  | plCsrelease => simp [exec, execPlCsrelease]
  | tdRound => simp [exec, execTdRound]
  | adPulse => simp [exec, execAdPulse]
  | tdDecode | tdClamp | rawFault | rawTemp => rfl

/-- Settles O44: from an empty history the operation makes the new events alone, and any history goes in front. -/
theorem historyGrowsAndIsNeverRead : Obligations.HistoryGrowsAndIsNeverRead := by
  intro i s t h hx
  have hpre := exec_prepend { s with hist := [] } s.hist i
  rw [show State.prepend { s with hist := [] } s.hist = s by simp [State.prepend], hx] at hpre
  obtain ⟨u, hu, ht⟩ := onNext_eq_next hpre.symm
  cases ht
  refine ⟨u.hist, rfl, ?_⟩
  have hpre' := exec_prepend { s with hist := [] } h i
  rw [hu] at hpre'
  simpa [State.prepend] using hpre'

end Sys2Proof.Machine
end

section
/-! The word that a scripted sensor sends (R57, R61, R110). -/

namespace Sys2Proof.Machine

/-- A stored sample is bit `15 - i`, and every other bit is as it was (R107). -/
theorem getLsbD_setSampleBit (v : RawSample) (d : Bool) {i k : Nat} (hi : i < 16) (hk : k < 16) :
    (setSampleBit v i d).getLsbD (15 - k) = if k = i then d else v.getLsbD (15 - k) := by
  have h16 : 15 - k < 16 := by omega
  by_cases h : k = i
  · subst h
    cases d <;> simp [setSampleBit, h16]
  · cases d <;> simp [setSampleBit, h16, h] <;> omega

/-- Bits stored from position `i` on fill the positions from there, and every other bit is as it was. -/
theorem getLsbD_storeBits (ds : List Bool) (i : Nat) (v : RawSample) {k : Nat} (hi : i + ds.length ≤ 16)
    (hk : k < 16) :
    (storeBits i v ds).getLsbD (15 - k) =
      if i ≤ k then ds.getD (k - i) (v.getLsbD (15 - k)) else v.getLsbD (15 - k) := by
  induction ds generalizing i v with
  | nil => simp [storeBits]
  | cons d ds ih =>
    rw [List.length_cons] at hi
    rw [storeBits, ih (i + 1) _ (by omega), getLsbD_setSampleBit v d (by omega) hk]
    obtain hlt | rfl | hlt := Nat.lt_trichotomy k i
    · rw [if_neg (by omega), if_neg hlt.ne, if_neg (by omega)]
    · simp
    · obtain ⟨m, rfl⟩ : ∃ m, k = i + 1 + m := Nat.exists_eq_add_of_le hlt
      rw [if_pos (Nat.le_add_right _ _), if_neg hlt.ne', if_pos hlt.le, Nat.add_sub_cancel_left,
        show i + 1 + m - i = m + 1 by omega, List.getD_cons_succ]

/-- The sixteen bits of a word, most significant first, are stored as that word (R61). -/
theorem wordOf_wordBits (w : RawSample) : wordOf (wordBits w) = w := by
  apply BitVec.eq_of_getLsbD_eq
  intro j hj
  have hlt : 15 - j < (wordBits w).length := by simp [wordBits, Config.rawBits]; omega
  have hstore := getLsbD_storeBits (wordBits w) 0 0 (k := 15 - j) (by simp [wordBits]) (by omega)
  rw [if_pos (Nat.zero_le _), Nat.sub_zero, List.getD_eq_getElem _ _ hlt, show 15 - (15 - j) = j by omega] at hstore
  rw [wordOf, hstore]
  simp [wordBits, show 15 - (15 - j) = j by omega]

/-- Settles O27: the sixteen samples of the transaction are the scripted bits. -/
theorem scriptedWordIsReturned : Obligations.ScriptedWordIsReturned := by
  intro s w rest hc hd
  obtain ⟨hbits, hpop⟩ := Env.drawBits_script (wordBits w) rest s.env hd
  have hlen : (wordBits w).length = 16 := by simp [wordBits]
  rw [hlen] at hbits hpop
  exact ⟨s.transaction, (readRaw_eq_next s).2 ⟨hc, rfl⟩, by rw [transaction_shreg, hbits, wordOf_wordBits],
    by rw [transaction_env, hpop]⟩

end Sys2Proof.Machine
end

section
/-! Decoding and encoding: the bits of a RAW16 word, the one row of an operation, and the words that operations have
(R80, R82, R84, R91). -/

namespace Sys2Proof

variable {c : CodeWord} {i : Instr}

/-! The fields of a RAW16 word (R80). -/

section
variable (q : Quarters) (oc : Bool) (sr : BitVec 2)

theorem testBit_rawWord : (rawWord q oc sr).testBit 2 = oc := by
  have hs := sr.isLt
  have hdiv : rawWord q oc sr / 2 ^ 2 = 2 * q.toNat + oc.toNat := by unfold rawWord; omega
  rw [Nat.testBit_eq_decide_div_mod_eq, hdiv, Nat.mul_add_mod]
  cases oc <;> rfl

theorem fieldQ_rawWord : fieldQ (rawWord q oc sr) = q := by
  have hs := sr.isLt
  have ho := oc.toNat_le
  have hdiv : rawWord q oc sr / 8 = q.toNat := by unfold rawWord; omega
  rw [fieldQ, hdiv, BitVec.ofNat_toNat, BitVec.setWidth_eq]

theorem fieldSr_rawWord : fieldSr (rawWord q oc sr) = sr := by
  apply BitVec.eq_of_toNat_eq
  have hs := sr.isLt
  simp only [fieldSr, BitVec.toNat_ofNat, rawWord]
  omega

/-- The mask of the decode class leaves `oc` (R82). -/
theorem rawWord_and_four : rawWord q oc sr &&& 4 = 4 * oc.toNat := by
  rw [show 4 = 2 ^ 2 from rfl, Nat.and_two_pow, testBit_rawWord, Nat.mul_comm]

/-- The decoder's reading sees `oc`, and `q` only where `oc` is clear (R89, R131). -/
theorem decodeSample_rawWord : Machine.decodeSample (BitVec.ofNat 16 (rawWord q oc sr)) =
    if oc then .fault else .temp q := by
  have hoc : (BitVec.ofNat 16 (rawWord q oc sr)).getLsbD Config.faultBit = oc := by
    simp only [BitVec.getLsbD_ofNat, Config.faultBit, testBit_rawWord, Nat.reduceLT, decide_true, Bool.true_and]
  have hq : (BitVec.ofNat 16 (rawWord q oc sr)).extractLsb' Config.dataShift 13 = q := by
    rw [BitVec.extractLsb', BitVec.toNat_ofNat, Nat.mod_eq_of_lt (Laws.EncodedForm.rawWord_lt q oc sr),
      Nat.shiftRight_eq_div_pow]
    exact fieldQ_rawWord q oc sr
  rw [Machine.decodeSample, hoc, hq]

end

/-- A word of sixteen bits is made of its three fields (R80). -/
theorem rawWord_fields {w : Nat} (h : w < 2 ^ 16) : rawWord (fieldQ w) (w.testBit 2) (fieldSr w) = w := by
  simp only [rawWord, fieldQ, fieldSr, BitVec.toNat_ofNat, Nat.toNat_testBit]
  omega

/-! The words that operations have (R91). -/

theorem CodeWord.wf_iff : c.wf = true ↔ (c.nbits = 4 ∨ c.nbits = 16) ∧ c.bits < 2 ^ c.nbits := by
  simp [CodeWord.wf]

theorem encode_wf (i : Instr) : (encode i).wf = true := by
  cases i with
  | rawFault q sr => exact (Laws.EncodedForm.rawFault q sr).1
  | rawTemp q sr => exact (Laws.EncodedForm.rawTemp q sr).1
  | _ => rfl

/-- Row number `w` of format OPSEL is the operation whose code is `w` (R84). -/
theorem encode_opselRow : ∀ w : Fin 16, encode ((opselRows.get w).build w) = ⟨4, w⟩ := by decide

/-- Every legal word is the word of an operation: OPSEL by its table, RAW16 by its fields (R82, R84). -/
theorem exists_encode_eq (h : c.wf = true) : ∃ i, encode i = c := by
  obtain ⟨n, w⟩ := c
  obtain ⟨hn | hn, hlt⟩ := CodeWord.wf_iff.1 h <;> cases hn
  · exact ⟨_, encode_opselRow ⟨w, hlt⟩⟩
  · cases hoc : w.testBit 2 with
    | true => exact ⟨.rawFault (fieldQ w) (fieldSr w), by rw [encode, ← hoc, rawWord_fields hlt]⟩
    | false => exact ⟨.rawTemp (fieldQ w) (fieldSr w), by rw [encode, ← hoc, rawWord_fields hlt]⟩

/-! The row that holds of a word. -/

/-- The two rows of RAW16 are told apart by `oc` alone (R82). -/
theorem filter_holds_rawWord (q : Quarters) (oc : Bool) (sr : BitVec 2) :
    opcodeTable.filter (fun r => r.holds ⟨16, rawWord q oc sr⟩) =
      raw16Rows.filter (fun r => r.pattern == 4 * oc.toNat) := by
  cases oc <;> simp [opcodeTable, opselRows, raw16Rows, OpRow.holds, rawWord_and_four]

/-- Exactly one row holds of the word of an operation, and it builds that operation (R82, R90). -/
theorem filter_holds_encode (i : Instr) :
    ∃ r, opcodeTable.filter (fun r => r.holds (encode i)) = [r] ∧ r.build (encode i).bits = i := by
  cases i with
  | rawFault q sr =>
    refine ⟨_, filter_holds_rawWord q true sr, ?_⟩
    simp [encode, fieldQ_rawWord, fieldSr_rawWord]
  | rawTemp q sr =>
    refine ⟨_, filter_holds_rawWord q false sr, ?_⟩
    simp [encode, fieldQ_rawWord, fieldSr_rawWord]
  | _ => exact ⟨_, rfl, rfl⟩

/-! What the decoder answers. -/

theorem decode_of_filter {r : OpRow} (hlt : c.bits < 2 ^ c.nbits)
    (hr : opcodeTable.filter (fun r => r.holds c) = [r]) : decode c = .ok (r.build c.bits) := by
  rw [decode, if_neg hlt.not_ge, ← List.head?_filter, hr]
  rfl

theorem decode_tooWide (h : 2 ^ c.nbits ≤ c.bits) : decode c = .error .tooWide := if_pos h

theorem decode_noSuchFormat (hlt : c.bits < 2 ^ c.nbits) (h4 : c.nbits ≠ 4) (h16 : c.nbits ≠ 16) :
    decode c = .error .noSuchFormat := by
  have hnone : opcodeTable.find? (fun r => r.holds c) = none := by
    simp [opcodeTable, opselRows, raw16Rows, OpRow.holds, h4.symm, h16.symm]
  rw [decode, if_neg hlt.not_ge, hnone]

theorem decode_encode (i : Instr) : decode (encode i) = .ok i := by
  obtain ⟨r, hr, hbuild⟩ := filter_holds_encode i
  rw [decode_of_filter (CodeWord.wf_iff.1 (encode_wf i)).2 hr, hbuild]

/-- A word that decodes is legal: each way to break the format is an error (R91). -/
theorem wf_of_decode (h : decode c = .ok i) : c.wf = true := by
  by_cases hlt : c.bits < 2 ^ c.nbits
  · refine CodeWord.wf_iff.2 ⟨?_, hlt⟩
    by_contra hn
    obtain ⟨h4, h16⟩ := not_or.1 hn
    rw [decode_noSuchFormat hlt h4 h16] at h
    cases h
  · rw [decode_tooWide (not_lt.1 hlt)] at h
    cases h

/-- Settles O3: a word that decodes is legal, so it is some operation's word, and that operation is the one decoded. -/
theorem decodeUndoesEncode : Obligations.DecodeUndoesEncode := by
  refine ⟨decode_encode, fun c i h => ?_⟩
  obtain ⟨j, rfl⟩ := exists_encode_eq (wf_of_decode h)
  rw [decode_encode] at h
  cases h
  rfl

/-- Settles O4: a legal word is an operation's word, of which one row holds. -/
theorem everyCodeNamesOneOperation : Obligations.EveryCodeNamesOneOperation := by
  refine ⟨fun c => ⟨fun ⟨_, h⟩ => wf_of_decode h, fun h => ?_⟩, fun c h => ?_, fun _ => decode_tooWide,
    fun _ => decode_noSuchFormat⟩
  · obtain ⟨i, rfl⟩ := exists_encode_eq h
    exact ⟨i, decode_encode i⟩
  · obtain ⟨i, rfl⟩ := exists_encode_eq h
    obtain ⟨r, hr, -⟩ := filter_holds_encode i
    rw [hr, List.length_singleton]

/-- Settles O11: every sixteen bits are an operation's word, and the reading of a word is told by `oc` and `q`. -/
theorem reservedBitsNeverMatter : Obligations.ReservedBitsNeverMatter := by
  refine ⟨fun v => ?_, fun q oc sr sr' => ?_, fun q q' sr sr' => ?_⟩
  · obtain ⟨i, hi⟩ := exists_encode_eq (c := ⟨16, v.toNat⟩) (CodeWord.wf_iff.2 ⟨.inr rfl, v.isLt⟩)
    exact ⟨i, hi ▸ decode_encode i⟩
  · rw [decodeSample_rawWord, decodeSample_rawWord]
  · rw [decodeSample_rawWord, decodeSample_rawWord, if_pos rfl, if_pos rfl]

/-- Settles O2: each word is its operation's encoding. -/
theorem wordsOfTheTableDecode : Obligations.WordsOfTheTableDecode :=
  ⟨decode_encode .clStart, decode_encode .clInput, decode_encode .clSensor, decode_encode .clAct,
    decode_encode .clIdle, decode_encode .plBegin, decode_encode .plReadraw, decode_encode .tdDecode,
    decode_encode .plSample, decode_encode .plCsrelease, decode_encode .tdClamp, decode_encode .adPulse,
    decode_encode (.rawTemp 50 0), decode_encode (.rawFault 50 3), decode_encode (.rawTemp 8191 3),
    decode_encode (.rawFault 0 0)⟩

end Sys2Proof
end

section
/-! What a step does with a test bench's word, with a data word as an operation, and with a state that has no meaning
(R82, R90, R236; log 7, log 14, log 17). -/

namespace Sys2Proof.Machine

/-- Settles O13: a data word's reading is the one that the decoder makes of its fields. -/
theorem dataWordsDecodeAsThemselves : Obligations.DataWordsDecodeAsThemselves := by
  refine fun s q sr => ⟨rfl, rfl, fun i t u hi ht hu => ?_⟩
  cases hu
  obtain rfl | rfl := hi
  · cases ht
    exact decodeSample_rawWord q true sr
  · cases ht
    exact decodeSample_rawWord q false sr

/-- Settles O5: legal registers let the bench's word through, and the operation it names does not return into
CL.SENSOR. -/
theorem stepRunsTheSelectedCode : Obligations.StepRunsTheSelectedCode := by
  intro s c rest i hw hp hq hb hd
  have hfetch : s.fetch = .run i { s with bench := rest } false := by
    simp [State.fetch, hw, hb, hd, Nat.not_lt.mpr hp, Nat.not_lt.mpr hq]
  simp [step, hfetch, afterExec]

/-- What the sequencer cannot select, the step refuses. -/
theorem step_eq_refused {s : State} {r : Refusal} (h : s.fetch = .stop r) : step s = .refused r := by
  rw [step, h]

/-- Settles O7: the three checks in their order, before anything is selected. -/
theorem meaninglessStatesAreRefused : Obligations.MeaninglessStatesAreRefused := by
  refine fun s => ⟨fun hw => ?_, fun hw hp => ?_, fun hw hp hq => ?_⟩ <;> apply step_eq_refused
  · exact if_pos hw
  · simp [State.fetch, hw, hp]
  · simp [State.fetch, hw, Nat.not_lt.mpr hp, hq]

end Sys2Proof.Machine
end

section
/-! The word and the line events that the sampled bits of a transaction make (R110, R112). -/

namespace Sys2Proof.Machine

/-- The binary digits of a number, most significant first, sum to its low bits. -/
theorem sum_testBit_eq_mod (n v : Nat) :
    ((List.range n).map (fun i => (v.testBit (n - 1 - i)).toNat * 2 ^ (n - 1 - i))).sum = v % 2 ^ n := by
  induction n with
  | zero => simp [Nat.mod_one]
  | succ n ih =>
    have tail : (fun i => (v.testBit (n + 1 - 1 - i)).toNat * 2 ^ (n + 1 - 1 - i)) ∘ Nat.succ =
        fun i => (v.testBit (n - 1 - i)).toNat * 2 ^ (n - 1 - i) := by
      funext i
      simp only [Function.comp_apply, show n + 1 - 1 - i.succ = n - 1 - i by omega]
    rw [List.range_succ_eq_map, List.map_cons, List.map_map, List.sum_cons, tail, ih, Nat.mod_pow_succ,
      Nat.toNat_testBit, Nat.mul_comm, Nat.add_comm]
    rfl

/-- The accumulator after sixteen samples is the number that R110 gives. -/
theorem toNat_wordOf {ds : List Bool} (h : ds.length = 16) : (wordOf ds).toNat = frameValue ds := by
  have digit : ∀ i ∈ List.range Config.rawBits, (ds.getD i false).toNat * 2 ^ (Config.rawBits - 1 - i) =
      ((wordOf ds).toNat.testBit (Config.rawBits - 1 - i)).toNat * 2 ^ (Config.rawBits - 1 - i) := by
    intro i hi
    have hstore := getLsbD_storeBits ds 0 0 (k := i) (by omega) (List.mem_range.1 hi)
    have hzero : (0 : RawSample).getLsbD (15 - i) = false := BitVec.getLsbD_zero
    rw [if_pos (Nat.zero_le i), Nat.sub_zero, hzero] at hstore
    rw [← hstore]
    rfl
  rw [frameValue, List.map_congr_left digit, sum_testBit_eq_mod, Nat.mod_eq_of_lt (wordOf ds).isLt]

theorem lineEvents_append (a b : List Event) : lineEvents (a ++ b) = lineEvents a ++ lineEvents b :=
  List.filter_append a b

/-- A pulse is five line events, whatever the registers hold (R106 to R108). -/
theorem lineEvents_pulseEvents (ts n : Nat) (v : RawSample) (ds : List Bool) : lineEvents (pulseEvents ts n v ds) =
    ds.flatMap (fun d => [.W .clk true, .D ts, .R .data d, .W .clk false, .D ts]) := by
  induction ds generalizing n v with
  | nil => rfl
  | cons d ds ih =>
    rw [pulseEvents, lineEvents_append, ih, List.flatMap_cons]
    rfl

theorem lineEvents_transactionEvents (ts : Nat) (ds : List Bool) :
    lineEvents (transactionEvents ts ds) = frameEvents ts ds := by
  rw [transactionEvents, lineEvents_append, lineEvents_append, lineEvents_pulseEvents]
  rfl

/-- Five events a bit, and chip-select at both ends (R112). -/
theorem frameEvents_length (ts : Nat) (ds : List Bool) : (frameEvents ts ds).length = 5 * ds.length + 2 := by
  simp [frameEvents, List.length_flatMap]
  omega

/-- Settles O26: the transaction's one equation, its events and its word read off the sixteen bits it draws. -/
theorem transactionReturnsTheSampledBits : Obligations.TransactionReturnsTheSampledBits := by
  intro s hc
  have hbits : (s.env.drawBits 16).length = 16 := Env.drawBits_length 16 s.env
  refine ⟨s.transaction, s.env.drawBits 16, _, (readRaw_eq_next s).2 ⟨hc, rfl⟩, hbits, transaction_hist s,
    lineEvents_transactionEvents _ _, ?_, ?_, ?_, ?_⟩
  · rw [lineEvents_transactionEvents, frameEvents_length, hbits]
  · rw [transaction_shreg, toNat_wordOf hbits]
  · rw [transaction_eq]
  · rw [transaction_env]
    exact Env.popBits_frame 16 s.env

end Sys2Proof.Machine
end

section
/-! What each operation of ProtocolLink does in every state (R101 to R109). -/

namespace Sys2Proof.Machine

/-- Settles O18: the two orders of the line writes are the two values of the free choice (U7). -/
theorem beginConfiguresTheLines : Obligations.BeginConfiguresTheLines := by
  refine ⟨rfl, fun s => ⟨s.begin, if Config.freeBeginOrder s.env.draws then [.W .clk false, .W .cs true]
    else [.W .cs true, .W .clk false], rfl, ?_, ?_, ?_⟩⟩
  · split
    · exact .inr rfl
    · exact .inl rfl
  · rw [begin_eq]
  · rw [begin_env]
    exact ⟨rfl, rfl, rfl, rfl⟩

/-- Settles O19: the one equation of PL.CSASSERT. -/
theorem csAssertOpensTheFrame : Obligations.CsAssertOpensTheFrame := fun s =>
  congrArg Host.Outcome.next (csAssert_eq s)

/-- A legal configuration settles for a microsecond at least (R6, R236). -/
theorem tSettleNs_ge_of_wf {p : Params} (h : p.wf = true) : 1000 ≤ p.tSettleNs := by
  simp only [Params.wf, Bool.and_eq_true, decide_eq_true_eq] at h
  obtain ⟨⟨⟨-, hsettle⟩, -⟩, -⟩ := h
  exact hsettle

/-- Settles O20: the sequencer's choice at PL_HIGH, and the one equation of PL.CLKHI. -/
theorem clkHiRaisesTheClock : Obligations.ClkHiRaisesTheClock := by
  refine ⟨rfl, fun s hw hb hp hq => ⟨?_, tSettleNs_ge_of_wf hw⟩, fun s => congrArg Host.Outcome.next (clkHi_eq s)⟩
  obtain ⟨-, high, -⟩ := stepRunsTheSequencersChoice s hw hb hp
  exact high hq

/-- A stored sample, bit by bit from the low end (R107). -/
theorem getLsbD_setSampleBit_low (v : RawSample) (d : Bool) {i j : Nat} (hi : i < 16) (hj : j < 16) :
    (setSampleBit v i d).getLsbD j = if j = 15 - i then d else v.getLsbD j := by
  have hbit := getLsbD_setSampleBit v d hi (k := 15 - j) (by omega)
  rw [show 15 - (15 - j) = j by omega] at hbit
  exact hbit.trans (if_congr (by omega) rfl rfl)

/-- Settles O21: inside a frame the sample is stored in its bit, outside one the register is free (log 10). -/
theorem sampleStoresTheBit : Obligations.SampleStoresTheBit := by
  intro s
  have inputs := Env.popData_frame s.env
  refine ⟨s.sample, s.dataBit, rfl, ?_⟩
  obtain hlt | hge := Nat.lt_or_ge s.bitcnt.toNat 16
  · rw [sample_eq s hlt]
    exact ⟨rfl, fun _ j hj => getLsbD_setSampleBit_low _ _ hlt hj, fun _ b bs hd => Env.popData_cons s.env b bs hd,
      inputs⟩
  · rw [sample_eq_of_le s hge]
    exact ⟨rfl, fun h => absurd h (by omega), fun h => absurd h (by omega), inputs⟩

/-- Settles O22: the sequencer's choice at PL_LOW, and a count of a frame fits its register with one more. -/
theorem clkLoCountsThePulse : Obligations.ClkLoCountsThePulse := by
  refine ⟨rfl, fun s hw hb hp hq => ?_, fun s hn => ⟨s.clkLo, rfl, ?_⟩⟩
  · obtain ⟨-, -, -, low, -⟩ := stepRunsTheSequencersChoice s hw hb hp
    exact low hq
  · rw [clkLo_eq s (by omega)]
    refine ⟨toNat_bitcnt_succ (by omega), fun h => if_pos (by omega), fun h => if_neg (by omega), ?_⟩
    by_cases h15 : s.bitcnt.toNat = 15 <;> simp [h15]

/-- Settles O23: the count goes on to 31, and from there it is free (log 11). -/
theorem clkLoOutsideAFrame : Obligations.ClkLoOutsideAFrame := by
  intro s hge
  refine ⟨s.clkLo, rfl, ?_⟩
  obtain hlt | h31 : s.bitcnt.toNat < 31 ∨ s.bitcnt.toNat = 31 := by omega
  · have hn : (s.bitcnt + 1).toNat = s.bitcnt.toNat + 1 := by bv_omega
    have h15 : s.bitcnt.toNat ≠ 15 := by omega
    have h16 : s.bitcnt.toNat + 1 ≠ 16 := by omega
    rw [clkLo_eq s hlt]
    refine ⟨fun _ => hn, ?_, ?_, fun _ => rfl⟩ <;> simp only [hn, if_neg h15, if_neg h16]
    rfl
  · rw [clkLo_eq_of_31 s h31]
    by_cases h16 : (Config.freeBitcnt s.env.draws).toNat = 16 <;> simp [h16, h31]

/-- Settles O24: the sequencer's choice at PL_RELEASE, and the one equation of PL.CSRELEASE. -/
theorem csReleaseEndsTheFrame : Obligations.CsReleaseEndsTheFrame := by
  refine ⟨rfl, fun s hw hb hp hq => ?_, fun s => congrArg Host.Outcome.next (csRelease_eq s)⟩
  have hm : microOp s.plPhase = some .plCsrelease := by rw [hq]; rfl
  rw [fetch_eq_sequence hw hb hp (by simp [hq]), State.sequence, hm]
  simp [hq]

/-- PL.READRAW on unconfigured lines (R102). -/
theorem readRaw_eq_refused {s : State} (h : s.plCfg = false) : s.readRaw = .refused .linesNotConfigured := by
  simp [State.readRaw, h]

/-- Settles O25: on expiry CL.SENSOR has only reloaded its timer when it asks for the transaction. -/
theorem transactionNeedsBegin : Obligations.TransactionNeedsBegin := by
  refine fun s hc => ⟨readRaw_eq_refused hc, fun he => ?_⟩
  have hexp : expired s.clockNow s.lastSensor s.cfg.sensorPeriodMs = true := decide_eq_true he
  have hraw : (s.readClock.writeLastSensor s.clockNow).readRaw = .refused .linesNotConfigured :=
    readRaw_eq_refused hc
  simp only [exec, execClSensor, hexp, if_true, hraw, onNext_refused]

/-- Settles O28: only PL.READRAW looks at `pl_cfg`, and the frame of the family is that of its published registers. -/
theorem protocolLinkNeverFails : Obligations.ProtocolLinkNeverFails := by
  refine fun s i hi => ⟨?_, fun t ht => ?_⟩
  · cases i with
    | plReadraw =>
      exact ⟨fun hc => ⟨_, (readRaw_eq_next s).2 ⟨hc rfl, rfl⟩⟩, fun ⟨_, h⟩ _ => ((readRaw_eq_next s).1 h).1⟩
    | plBegin | plCsassert | plClkhi | plSample | plClklo | plCsrelease =>
      exact ⟨fun _ => ⟨_, rfl⟩, fun _ h => nomatch h⟩
    | clStart | clInput | clSensor | clAct | clIdle | tdDecode | tdRound | tdClamp | adPulse | rawFault | rawTemp =>
      simp at hi
  · have hpub := exec_protocolLink_published hi ht
    injection hpub with hc hn
    exact ⟨by simpa only [Bool.ofNat_toNat] using congrArg Bool.ofNat hn, BitVec.eq_of_toNat_eq hc⟩

end Sys2Proof.Machine
end

section
/-! The three value functions of the decoder and of the round-and-clamp stage in arithmetic, and what their operations
do in every state (R130 to R139). -/

namespace Sys2Proof.Machine

/-- The decoder on the word's value: bit 2 first, then the count in bits 15 to 3 (R131). -/
theorem decodeSample_eq (v : RawSample) : decodeSample v =
    if v.toNat / 4 % 2 = 1 then .fault else .temp (BitVec.ofNat 13 (v.toNat / 8)) := by
  have hbit : v.getLsbD Config.faultBit = decide (v.toNat / 4 % 2 = 1) := Nat.testBit_eq_decide_div_mod_eq
  have hcount : v.extractLsb' Config.dataShift 13 = BitVec.ofNat 13 (v.toNat / 8) := by
    rw [BitVec.extractLsb', Nat.shiftRight_eq_div_pow, Config.dataShift]
  simp only [decodeSample, hbit, hcount, decide_eq_true_eq]

/-- Thirteen bits hold what the shift leaves of a word (R139). -/
theorem toNat_sampleCount (v : RawSample) : (BitVec.ofNat 13 (v.toNat / 8)).toNat = v.toNat / 8 := by
  have := v.isLt
  rw [BitVec.toNat_ofNat, Nat.mod_eq_of_lt (by omega)]

/-- Settles O10: the two branches of the decoder; a quarter is twenty-five hundredths. -/
theorem decodeByFaultBitAndShift : Obligations.DecodeByFaultBitAndShift := by
  refine fun v => ⟨fun h => ?_, fun h => ?_⟩
  · exact (decodeSample_eq v).trans (if_pos h)
  · have hclear : ¬ v.toNat / 4 % 2 = 1 := by omega
    rw [decodeSample_eq, if_neg hclear, Reading.value, toNat_sampleCount, Nat.shiftRight_eq_div_pow]
    norm_num

/-- Settles O12: the decoder's arithmetic, put in the result field. -/
theorem decodeCompletes : Obligations.DecodeCompletes := by
  intro s
  rw [← decodeSample_eq]
  rfl

/-- Rounding a count (R134). -/
theorem roundQuarters_natCast (n : Nat) : roundQuarters n = ((n + 2) / 4 : Nat) := by
  rw [roundQuarters, if_pos (Int.natCast_nonneg n)]
  rfl

/-- Rounding takes ties away from zero on both sides (D6). -/
theorem roundQuarters_neg (q : Int) : roundQuarters (-q) = -roundQuarters q := by
  simp only [roundQuarters, Config.countsPerDegree]
  obtain hq | rfl | hq := lt_trichotomy q 0
  · rw [if_pos (by omega), if_neg (by omega), neg_neg]
  · rfl
  · rw [if_neg (by omega), if_pos (by omega), neg_neg]

/-- Fourteen bits hold the sum, so the adder does not wrap (R139). -/
theorem toNat_roundAdder (q : Quarters) : ((q.setWidth 14 + 2) >>> 2 : BitVec 14).toNat = (q.toNat + 2) / 4 := by
  have := q.isLt
  have hsum : (q.setWidth 14 + 2).toNat = q.toNat + 2 := by bv_omega
  rw [BitVec.toNat_ushiftRight, hsum, Nat.shiftRight_eq_div_pow]

/-- Settles O14: on a count the result is the quotient by four of the count and two. -/
theorem roundIsNearestTiesUp : Obligations.RoundIsNearestTiesUp := by
  refine ⟨fun q => ?_, roundQuarters_neg⟩
  obtain ⟨hlow, hhigh⟩ := roundQuarters_range q
  refine ⟨?_, ?_, hlow, hhigh, by rw [toNat_roundAdder, roundQuarters_natCast]⟩ <;>
    rw [roundQuarters_natCast] <;> omega

/-- Settles O15: a temperature has a count to round, and Fault a free result (log 13). -/
theorem roundCompletes : Obligations.RoundCompletes := by
  refine ⟨fun s q h => ?_, fun s h => ⟨_, congrArg Host.Outcome.next (roundReading_fault s h)⟩⟩
  rw [← roundQuarters_natCast]
  exact congrArg Host.Outcome.next (roundReading_temp s q h)

/-- Clamping by the two bounds (R135). -/
theorem clampDegrees_eq (n : Int) : clampDegrees n = min (max n 0) 500 := by
  simp only [clampDegrees, Config.tMin, Config.tMax]
  split
  · omega
  · split <;> omega

/-- Settles O16: nine bits hold the clamped integer. -/
theorem clampCompletes : Obligations.ClampCompletes := fun s =>
  ⟨s.clampRounded, rfl, rfl, (clampedWord_toNat s.rounded).trans (clampDegrees_eq s.rounded)⟩

/-- The published value of a count (R136). -/
theorem clampDegrees_roundQuarters (n : Nat) : clampDegrees (roundQuarters n) = (min ((n + 2) / 4) 500 : Nat) := by
  rw [roundQuarters_natCast, clampDegrees_eq]
  omega

/-- The bounds are integers, so that the two steps may be exchanged (R136). -/
theorem clampDegrees_roundQuarters_comm (q : Int) :
    clampDegrees (roundQuarters q) = roundQuarters (min (max q 0) 2000) := by
  obtain ⟨n, rfl | rfl⟩ := q.eq_nat_or_neg
  · have hmin : min (max (n : Int) 0) 2000 = (min n 2000 : Nat) := by omega
    rw [hmin, clampDegrees_roundQuarters, roundQuarters_natCast]
    omega
  · have hmin : min (max (-n : Int) 0) 2000 = 0 := by omega
    have hzero : roundQuarters 0 = 0 := rfl
    rw [hmin, hzero, roundQuarters_neg, roundQuarters_natCast, clampDegrees_eq]
    omega

/-- Settles O17: facts about the least of 500 and a quotient, and the exchange of the two steps. -/
theorem publishedValueRange : Obligations.PublishedValueRange := by
  refine ⟨fun q => ?_, fun q q' h => ?_, fun n h => ?_, clampDegrees_roundQuarters_comm⟩
  · rw [clampDegrees_roundQuarters]
    refine ⟨?_, ?_, ?_⟩ <;> omega
  · rw [clampDegrees_roundQuarters, clampDegrees_roundQuarters]
    omega
  · have hcount := clampDegrees_roundQuarters (4 * n)
    push_cast at hcount
    rw [hcount]
    omega

end Sys2Proof.Machine
end

section
/-! The fixed program has a next step everywhere (R103, R166, R202): only a transaction can be refused, and in the
program none starts before `begin()`. -/

namespace Sys2Proof.Machine

variable {s : State} {i : Instr}

/-- On configured lines every operation completes (R103, R235). -/
theorem exec_completes (h : s.plCfg = true) (i : Instr) : ∃ t, exec i s = .next t := by
  cases hx : exec i s with
  | next t => exact ⟨t, rfl⟩
  | fault r => cases r
  | refused r =>
    obtain ⟨-, hc, -⟩ := exec_refused hx
    simp [h] at hc

/-- Each code that `phase` may hold names a phase (R21). -/
theorem exists_phaseOp {p : SeqCode} (h : p.toNat ≤ 4) : ∃ i, phaseOp p = some i := by
  rw [← Option.isSome_iff_exists]
  revert p; decide

/-- Each code of `pl_phase` but PL_IDLE names a micro-operation (R22). -/
theorem exists_microOp {q : SeqCode} (h : q.toNat ≤ 4) (hq : q ≠ plIdle) : ∃ i, microOp q = some i := by
  rw [← Option.isSome_iff_exists]
  revert q; decide

/-- Settles O54: CL.START is never refused, and after it the lines are configured. -/
theorem programNeverStops : Obligations.ProgramNeverStops := by
  intro s hr
  by_cases hq : s.plPhase = plIdle
  · obtain ⟨i, hi⟩ := exists_phaseOp hr.phaseLegal
    rw [step_eq_exec_phaseOp hr.config hr.noBench hr.phaseLegal hq hi]
    by_cases hp : s.phase = phaseStart
    · cases (show phaseOp s.phase = some .clStart by rw [hp]; rfl).symm.trans hi
      exact ⟨_, rfl⟩
    · exact exec_completes (hr.configured hp).1 i
  · have hs : s.phase = phaseSensor := hr.transactionInSensor hq
    by_cases hrel : s.plPhase = plRelease
    · exact ⟨_, step_eq_finishPoll hr.config hr.noBench hr.phaseLegal hrel hs⟩
    · obtain ⟨i, hi⟩ := exists_microOp hr.plPhaseLegal hq
      rw [step_eq_exec_microOp hr.config hr.noBench hr.phaseLegal hr.plPhaseLegal hi (fun h => hrel h.1)]
      exact exec_completes (hr.configured (by simp [hs])).1 i

end Sys2Proof.Machine
end

section
/-! The five phases, each in one equation or one for each outcome (42_control_loop.md, R151 to R160). -/

namespace Sys2Proof.Machine

variable (s : State)

/-! CL.START, CL.INPUT and CL.IDLE. -/

/-- The clock sample of CL.START, taken after `begin()` has taken a free value (R151, U7). -/
def State.startNow : Ms := s.env.popFree.popClock.now

/-- The two line writes of `begin()`, in either order (R101, U7). -/
def State.beginWrites : List Event :=
  if Config.freeBeginOrder s.env.draws then [.W .clk false, .W .cs true] else [.W .cs true, .W .clk false]

/-- What CL.START appends to the history (R151). -/
def State.startEvents : List Event :=
  .S [(.currentTemperature, 0)] :: .S [(.actuatorRequested, 0)] :: .S [(.notConnected, 0)] :: .W .act false ::
    (s.beginWrites ++ [.S [(.plCfg, 1)], .T s.startNow, .S [(.lastSensor, s.startNow.toNat)],
      .S [(.lastAct, s.startNow.toNat)], .S [(.phase, 1)]])

/-- What CL.START does (R151, R232). -/
theorem execClStart_eq : exec .clStart s = .next { s with
    currentTemperature := 0, actuatorRequested := false, notConnected := false, act := false
    cs := true, clk := false, plCfg := true, csDir := .output, clkDir := .output, dataDir := .input
    lastSensor := s.startNow, lastAct := s.startNow, phase := phaseInput
    env := s.env.popFree.popClock
    hist := s.hist ++ s.startEvents } := by
  rw [exec, execClStart, startTimers_eq, begin_eq, clearControl_eq]
  simp [State.lineWrite, State.writePhase, State.clockNow, State.startNow, State.startEvents, State.beginWrites]

/-- Settles O30: the equation of CL.START; the order of `begin()` is one of the two (U7). -/
theorem startEstablishesTheState : Obligations.StartEstablishesTheState := by
  intro s
  obtain ⟨hms, hdata, hreq⟩ := Env.popClock_frame s.env.popFree
  refine ⟨_, s.startNow, s.startEvents, execClStart_eq s, rfl, rfl, ?_, rfl, ?_, hdata, hreq⟩
  · unfold State.startEvents State.beginWrites
    split
    · exact .inr rfl
    · exact .inl rfl
  · exact hms.ge.trans' (Nat.le_add_right _ _)

/-- Settles O31: the sample is the script's next entry, or free (log 4). -/
theorem inputLatchesTheRequest : Obligations.InputLatchesTheRequest := by
  refine fun s => ⟨_, s.reqBit, rfl, ?_, fun b bs hb => ?_, Env.popReq_frame s.env⟩
  · simp [State.writePhase, State.writeRequested, State.readReq]
  · simp [State.reqBit, Env.reqBit, Env.popReq, hb]

/-- Settles O39: a delay and the write of `phase`. -/
theorem idleOnlyDelays : Obligations.IdleOnlyDelays := by
  intro s
  simp [exec, execClIdle, State.writePhase, State.delay]

/-! The timer test. -/

/-- The modular difference of two counts less than `2^W` apart is their true difference (R154, R247). -/
theorem elapsed_ofNat {now last : Nat} (hle : last ≤ now) (hlt : now - last < 2 ^ Config.msClockBits) :
    elapsed (BitVec.ofNat _ now) (BitVec.ofNat _ last) = now - last := by
  obtain ⟨d, rfl⟩ := Nat.exists_eq_add_of_le hle
  rw [Nat.add_sub_cancel_left] at hlt ⊢
  rw [elapsed, BitVec.ofNat_add, add_sub_cancel_left, BitVec.toNat_ofNat, Nat.mod_eq_of_lt hlt]

/-- Settles O38: under the premise of U8 the two samples are less than `2^W` apart. -/
theorem timerTestIsTrueElapsedTime : Obligations.TimerTestIsTrueElapsedTime := by
  rintro s last period ⟨hle, hlt⟩
  have htrue : elapsed s.clockNow (BitVec.ofNat 32 last) = s.env.popClock.ms - last := elapsed_ofNat hle hlt
  rw [expired, htrue, decide_eq_true_iff]

/-! CL.ACT. -/

/-- What CL.ACT appends between its clock sample and its write of `phase` (R156, R157). -/
def State.actEvents : List Event :=
  if expired s.clockNow s.lastAct s.cfg.actPeriodMs then
    .S [(.lastAct, s.clockNow.toNat)] ::
      if s.actuatorRequested then [.W .act true, .D s.cfg.tPulseNs, .W .act false] else []
  else []

/-- What CL.ACT does (R156 to R158). -/
theorem execClAct_eq : exec .clAct s = .next { s with
    phase := phaseIdle
    lastAct := if expired s.clockNow s.lastAct s.cfg.actPeriodMs then s.clockNow else s.lastAct
    act := if expired s.clockNow s.lastAct s.cfg.actPeriodMs ∧ s.actuatorRequested then false else s.act
    env := s.env.popClock
    hist := s.hist ++ (.T s.clockNow :: s.actEvents ++ [.S [(.phase, 4)]]) } := by
  cases he : expired s.clockNow s.lastAct s.cfg.actPeriodMs with
  | false => simp [exec, execClAct, State.checkActuator, State.actEvents, he, State.readClock, State.writePhase]
  | true =>
    cases hr : s.actuatorRequested with
    | false =>
      simp [exec, execClAct, State.checkActuator, State.actEvents, he, serviceActuator_idle, hr, State.readClock,
        State.writeLastAct, State.writePhase]
    | true =>
      simp [exec, execClAct, State.checkActuator, State.actEvents, he, serviceActuator_pulse, hr, State.readClock,
        State.writeLastAct, actPulse_eq, State.writePhase]

/-- Settles O34: the equation of CL.ACT, by expiry and request. -/
theorem actPhasePulsesOnRequest : Obligations.ActPhasePulsesOnRequest := by
  refine ⟨rfl, fun s he => ?_, fun s he hr => ?_, fun s he hr => ?_⟩ <;> rw [execClAct_eq]
  · have hexp : expired s.clockNow s.lastAct s.cfg.actPeriodMs = false := decide_eq_false he.not_ge
    simp [State.actEvents, hexp]
  · have hexp : expired s.clockNow s.lastAct s.cfg.actPeriodMs = true := decide_eq_true he
    simp [State.actEvents, hexp, hr]
  · have hexp : expired s.clockNow s.lastAct s.cfg.actPeriodMs = true := decide_eq_true he
    simp [State.actEvents, hexp, hr]

/-- Settles O36: the equation of CL.ACT reads none of these fields. -/
theorem actuatorIgnoresTheTemperature : Obligations.ActuatorIgnoresTheTemperature := by
  intro s t c n w r m k h hx
  cases (execClAct_eq s).symm.trans hx
  exact ⟨_, rfl, execClAct_eq _⟩

/-! CL.SENSOR. -/

/-- CL.SENSOR before its period has passed (R153, R154). -/
theorem execClSensor_wait (h : (s.clockNow - s.lastSensor).toNat < s.cfg.sensorPeriodMs) :
    exec .clSensor s = .next (s.readClock.writePhase phaseAct) := by
  have hexp : expired s.clockNow s.lastSensor s.cfg.sensorPeriodMs = false := decide_eq_false h.not_ge
  exact if_neg (Bool.eq_false_iff.1 hexp)

/-- CL.SENSOR on expiry, with the lines configured (R153, R154). -/
theorem execClSensor_poll (hc : s.plCfg = true) (h : s.cfg.sensorPeriodMs ≤ (s.clockNow - s.lastSensor).toNat) :
    exec .clSensor s = .next (s.readClock.writeLastSensor s.clockNow).transaction.finishPoll := by
  have hexp : expired s.clockNow s.lastSensor s.cfg.sensorPeriodMs = true := decide_eq_true h
  have hraw := (readRaw_eq_next (s.readClock.writeLastSensor s.clockNow)).2 ⟨hc, rfl⟩
  simp only [exec, execClSensor, hexp, if_true, hraw, onNext_next]

/-- What CL.SENSOR has done on expiry when its transaction returns (R153). -/
theorem reload_transaction_eq : (s.readClock.writeLastSensor s.clockNow).transaction = { s with
    lastSensor := s.clockNow, cs := true, clk := false, plPhase := plIdle, bitcnt := 16
    shreg := wordOf (s.env.popClock.drawBits 16)
    env := s.env.popClock.popBits 16
    hist := s.hist ++ (.T s.clockNow :: .S [(.lastSensor, s.clockNow.toNat)] ::
      transactionEvents s.cfg.tSettleNs (s.env.popClock.drawBits 16)) } := by
  rw [transaction_eq]
  simp [State.writeLastSensor, State.readClock]

/-- The word of a poll with its fault bit set (R131). -/
theorem decodeSample_of_faultBit {v : RawSample} (h : v.getLsbD 2 = true) : decodeSample v = .fault := if_pos h

/-- The word of a poll with its fault bit clear: its count, and the temperature that is published (R131, R136). -/
theorem decodeSample_of_clear {v : RawSample} (h : v.getLsbD 2 = false) : ∃ q, decodeSample v = .temp q ∧
    (clampedWord (roundQuarters q.toNat)).toNat = min ((v.toNat / 8 + 2) / 4) 500 := by
  have hbit : ¬ v.toNat / 4 % 2 = 1 := by
    simpa [BitVec.getLsbD, Nat.testBit_eq_decide_div_mod_eq] using h
  refine ⟨_, (decodeSample_eq v).trans (if_neg hbit), ?_⟩
  have hword := (clampedWord_toNat _).trans (clampDegrees_roundQuarters (v.toNat / 8))
  rw [toNat_sampleCount]
  exact_mod_cast hword

/-- What the rest of a poll changes at most (R155). -/
theorem finishPoll_frame : s.finishPoll = { s with
    phase := phaseAct
    currentTemperature := s.finishPoll.currentTemperature, notConnected := s.finishPoll.notConnected
    reading := s.finishPoll.reading, rounded := s.finishPoll.rounded, clamped := s.finishPoll.clamped
    hist := s.finishPoll.hist } := by
  cases h : decodeSample s.shreg with
  | fault => rw [finishPoll_fault s h]
  | temp q => rw [finishPoll_temp s q h]

/-- The fault bit of the word decides between the flag and the published temperature (R155, R207, R209). -/
theorem finishPoll_by_faultBit : ∃ ws, s.finishPoll.hist = s.hist ++ [.S ws, .S [(Reg.phase, 3)]] ∧
    (s.shreg.getLsbD 2 = true →
      s.finishPoll.notConnected = true ∧ s.finishPoll.currentTemperature = s.currentTemperature) ∧
    (s.shreg.getLsbD 2 = false → s.finishPoll.notConnected = false ∧
      s.finishPoll.currentTemperature.toNat = min ((s.shreg.toNat / 8 + 2) / 4) 500 ∧
      ws = [(.currentTemperature, s.finishPoll.currentTemperature.toNat), (.notConnected, 0)]) := by
  cases hb : s.shreg.getLsbD 2 with
  | true =>
    rw [finishPoll_fault s (decodeSample_of_faultBit hb)]
    exact ⟨_, rfl, fun _ => ⟨rfl, rfl⟩, nofun⟩
  | false =>
    obtain ⟨q, hq, htemp⟩ := decodeSample_of_clear hb
    rw [finishPoll_temp s q hq]
    exact ⟨_, rfl, nofun, fun _ => ⟨rfl, htemp, rfl⟩⟩

/-- Settles O32: the clock alone without expiry; on expiry the transaction, and the fault bit of its word decides. -/
theorem sensorPhasePollsOnExpiry : Obligations.SensorPhasePollsOnExpiry := by
  refine ⟨rfl, fun s h => ?_, fun s hc he => ?_⟩
  · rw [execClSensor_wait s h]
    simp [State.readClock, State.writePhase]
  obtain ⟨u, hu⟩ : ∃ u, u = (s.readClock.writeLastSensor s.clockNow).transaction := ⟨_, rfl⟩
  have hx : exec .clSensor s = .next u.finishPoll := hu ▸ execClSensor_poll s hc he
  rw [reload_transaction_eq] at hu
  have hlen : (s.env.popClock.drawBits 16).length = 16 := Env.drawBits_length 16 _
  obtain ⟨hms, hreq, -⟩ := Env.popBits_frame 16 s.env.popClock
  obtain ⟨-, -, hreq'⟩ := Env.popClock_frame s.env
  obtain ⟨ws, hhist, hfault, hgood⟩ := finishPoll_by_faultBit u
  refine ⟨u.finishPoll, s.env.popClock.drawBits 16, .T s.clockNow :: .S [(.lastSensor, s.clockNow.toNat)] ::
    transactionEvents s.cfg.tSettleNs (s.env.popClock.drawBits 16) ++ [.S ws, .S [(.phase, 3)]], hx, ?_, hlen, ?_, ?_,
    ?_, fun hb => ?_, ?_, ?_, ?_⟩
  · rw [hhist, hu, List.append_assoc]
  · rw [lineEvents_append, ← lineEvents_transactionEvents]
    exact List.append_nil _
  · rw [finishPoll_shreg, hu, toNat_wordOf hlen]
  · rw [finishPoll_shreg]
    intro hb
    obtain ⟨hn, ht⟩ := hfault hb
    exact ⟨hn, ht.trans (by rw [hu])⟩
  · rw [finishPoll_shreg] at hb ⊢
    obtain ⟨hn, ht, hws⟩ := hgood hb
    exact ⟨hn, ht, by simp [hws]⟩
  · rw [finishPoll_frame u, hu]
  · rw [finishPoll_env, hu, hms]
  · rw [finishPoll_env, hu, hreq, hreq']

/-- CL.SENSOR on another actuator timer (R159). -/
theorem finishPoll_withLastAct (x : Ms) : { s with lastAct := x }.finishPoll = { s.finishPoll with lastAct := x } := by
  cases h : decodeSample s.shreg with
  | fault => rw [finishPoll_fault s h]; exact finishPoll_fault { s with lastAct := x } h
  | temp q => rw [finishPoll_temp s q h]; exact finishPoll_temp { s with lastAct := x } q h

/-- Settles O37: what CL.SENSOR does is the same with any `lastAct`, and the equation of CL.ACT has no `lastSensor`. -/
theorem timersAreIndependent : Obligations.TimersAreIndependent := by
  refine ⟨fun s t x h => ?_, fun s t x h => ?_⟩
  · obtain ⟨he, hc, rfl⟩ | ⟨he, rfl⟩ := execClSensor_next h
    · have same : ({ s with lastAct := x }.readClock.writeLastSensor s.clockNow).transaction =
          { (s.readClock.writeLastSensor s.clockNow).transaction with lastAct := x } := by
        rw [reload_transaction_eq s]
        exact reload_transaction_eq { s with lastAct := x }
      refine ⟨by simp, ?_⟩
      rw [← finishPoll_withLastAct, ← same]
      exact execClSensor_poll { s with lastAct := x } hc (of_decide_eq_true he)
    · exact ⟨rfl, execClSensor_wait { s with lastAct := x } (not_le.1 (of_decide_eq_false he))⟩
  · cases (execClAct_eq s).symm.trans h
    exact ⟨rfl, execClAct_eq _⟩

end Sys2Proof.Machine
end

section
/-! How often the phases assert chip-select and the actuator (R154, R158). -/

namespace Sys2Proof.Machine

variable {s t : State} {i : Instr}

/-- Line writes are counted among the line events. -/
theorem count_lineEvents (l : OutLine) (b : Bool) (es : List Event) :
    (lineEvents es).count (.W l b) = es.count (.W l b) := List.count_filter rfl

/-- A frame asserts chip-select once (R104). -/
theorem count_csAssert_frameEvents (ts : Nat) (ds : List Bool) : (frameEvents ts ds).count (.W .cs false) = 1 := by
  simp [frameEvents, List.count_eq_zero]

/-- A frame leaves the actuator alone (R51). -/
theorem count_actAssert_frameEvents (ts : Nat) (ds : List Bool) : (frameEvents ts ds).count (.W .act true) = 0 :=
  List.count_eq_zero.2 (by simp [frameEvents])

/-- CL.ACT leaves chip-select alone (R51). -/
theorem csAssert_notMem_actEvents (s : State) : .W .cs false ∉ s.actEvents := by
  unfold State.actEvents
  split
  · split <;> simp
  · simp

/-- The line events of a completed CL.SENSOR, and its timer: a frame and a reload on expiry, neither without (R154). -/
theorem execClSensor_lineEvents (h : exec .clSensor s = .next t) : ∃ new, t.hist = s.hist ++ new ∧
    (((s.clockNow - s.lastSensor).toNat < s.cfg.sensorPeriodMs ∧ lineEvents new = [.T s.clockNow] ∧
        t.lastSensor = s.lastSensor) ∨
      (s.cfg.sensorPeriodMs ≤ (s.clockNow - s.lastSensor).toNat ∧ t.lastSensor = s.clockNow ∧
        ∃ ds, lineEvents new = .T s.clockNow :: frameEvents s.cfg.tSettleNs ds)) := by
  obtain ⟨-, wait, poll⟩ := sensorPhasePollsOnExpiry
  obtain ⟨he, hc, -⟩ | ⟨he, -⟩ := execClSensor_next h
  · obtain ⟨u, ds, new, hx, hhist, -, hline, -, -, -, hframe, -⟩ := poll s hc (of_decide_eq_true he)
    cases hx.symm.trans h
    exact ⟨new, hhist, .inr ⟨of_decide_eq_true he, by rw [hframe], ds, hline⟩⟩
  · have hlt := not_le.1 (of_decide_eq_false he)
    cases (wait s hlt).symm.trans h
    exact ⟨_, rfl, .inl ⟨hlt, rfl, rfl⟩⟩

/-- The phases without a timer assert neither chip-select nor the actuator (R151, R152, R160). -/
theorem exec_untimed_count (hi : i ∈ [Instr.clStart, .clInput, .clIdle]) (h : exec i s = .next t) :
    ∃ new, t.hist = s.hist ++ new ∧ new.count (.W .cs false) = 0 ∧ new.count (.W .act true) = 0 := by
  simp only [List.mem_cons, List.not_mem_nil, or_false] at hi
  obtain rfl | rfl | rfl := hi
  · obtain ⟨u, t0, new, hx, -, hhist, hline, -⟩ := startEstablishesTheState s
    cases hx.symm.trans h
    refine ⟨new, hhist, ?_⟩
    rw [← count_lineEvents .cs, ← count_lineEvents .act]
    obtain hline | hline := hline <;> simp [hline]
  · obtain ⟨u, r, hx, hu, -⟩ := inputLatchesTheRequest s
    cases hx.symm.trans h
    exact ⟨_, by rw [hu], by simp, by simp⟩
  · cases (idleOnlyDelays s).symm.trans h
    exact ⟨_, rfl, by simp, by simp⟩

/-- Settles O33: a frame asserts chip-select once, and CL.SENSOR makes one on expiry alone. -/
theorem transactionsArePeriodsApart : Obligations.TransactionsArePeriodsApart := by
  refine ⟨fun s t h => ?_, fun s t i hi h => ?_⟩
  · obtain ⟨new, hhist, ⟨hlt, hline, hlast⟩ | ⟨hle, hlast, ds, hline⟩⟩ := execClSensor_lineEvents h <;>
      refine ⟨new, hhist, ?_⟩
    · have hcount : new.count (.W .cs false) = 0 := by rw [← count_lineEvents, hline]; rfl
      rw [hcount, if_neg hlt.not_ge]
      exact ⟨rfl, nofun, fun _ => hlast⟩
    · have hcount : new.count (.W .cs false) = 1 := by
        rw [← count_lineEvents, hline, List.count_cons_of_ne (by simp), count_csAssert_frameEvents]
      rw [hcount, hlast, if_pos hle]
      exact ⟨rfl, fun _ => ⟨rfl, hle⟩, nofun⟩
  · cases i with
    | clStart | clInput | clIdle =>
      obtain ⟨new, hhist, hcount, -⟩ := exec_untimed_count (by simp) h
      exact ⟨new, hhist, hcount⟩
    | clAct =>
      cases (execClAct_eq s).symm.trans h
      exact ⟨_, rfl, List.count_eq_zero.2 (by simp [csAssert_notMem_actEvents])⟩
    | _ => simp at hi

/-- Settles O35: the pulse is among the events of CL.ACT on a requested expiry, and a frame has none. -/
theorem onePulsePerRequestedExpiry : Obligations.OnePulsePerRequestedExpiry := by
  refine ⟨fun s => ⟨_, _, execClAct_eq s, rfl, ?_⟩, fun s t i hi h => ?_⟩
  · cases he : expired s.clockNow s.lastAct s.cfg.actPeriodMs <;> cases hr : s.actuatorRequested <;>
      simp [State.actEvents, he, hr]
  · cases i with
    | clStart | clInput | clIdle =>
      obtain ⟨new, hhist, -, hcount⟩ := exec_untimed_count (by simp) h
      exact ⟨new, hhist, hcount⟩
    | clSensor =>
      obtain ⟨new, hhist, hline⟩ := execClSensor_lineEvents h
      refine ⟨new, hhist, ?_⟩
      rw [← count_lineEvents]
      obtain ⟨-, hline, -⟩ | ⟨-, -, ds, hline⟩ := hline <;> rw [hline]
      · rfl
      · rw [List.count_cons_of_ne (by simp), count_actAssert_frameEvents]
    | _ => simp at hi

end Sys2Proof.Machine
end

section
/-! The actuator driver and the display (R181, R184). -/

namespace Sys2Proof.Machine

variable {s : State}

/-- The pulse is complete in one operation, which nothing refuses (R181, R182). -/
theorem execAdPulse_eq (s : State) : exec .adPulse s = .next s.actPulse := rfl

/-- The flag hides the temperature (R184). -/
theorem display_of_notConnected (h : s.notConnected = true) : s.display = .notConnectedText := if_pos h

/-- Without the flag the temperature is shown (R184). -/
theorem display_of_connected (h : s.notConnected = false) : s.display = .degrees s.currentTemperature.toNat :=
  if_neg (by simp [h])

/-- Settles O40: the operation is the pulse, and the pulse has one equation. -/
theorem pulseIsBounded : Obligations.PulseIsBounded := fun s => by
  rw [execAdPulse_eq, actPulse_eq]

/-- Settles O42: the two branches of the display, and a word with its fault bit set raises the flag and keeps the
temperature. -/
theorem displayShowsTheFlagFirst : Obligations.DisplayShowsTheFlagFirst := by
  refine ⟨fun s => display_of_notConnected, fun s => display_of_connected, fun s hb => ?_⟩
  obtain ⟨-, -, hfault, -⟩ := finishPoll_by_faultBit s
  obtain ⟨hflag, hkept⟩ := hfault hb
  exact ⟨display_of_notConnected hflag, hkept⟩

end Sys2Proof.Machine
end

section
/-! The configurations that are not refused (R236, U12). -/

namespace Sys2Proof

/-- The five checks of a configuration, one for each parameter that R236 constrains. -/
theorem Params.wf_iff {p : Params} : p.wf = true ↔
    (0 < p.sensorPeriodMs ∧ p.sensorPeriodMs < 2 ^ Config.msClockBits) ∧
    (0 < p.actPeriodMs ∧ p.actPeriodMs < 2 ^ Config.msClockBits) ∧ 1000 ≤ p.tSettleNs ∧
    (0 < p.tIdleNs ∧ p.tIdleNs < p.actPeriodMs * 1000000) ∧
    (0 < p.tPulseNs ∧ p.tPulseNs < p.actPeriodMs * 1000000) := by
  simp only [Params.wf, Bool.and_eq_true, decide_eq_true_eq, and_assoc]

/-- Settles O8: the five checks in the spec's units; a millisecond is a million nanoseconds, and the clock of the
periods has 32 bits. -/
theorem legalConfigurations : Obligations.LegalConfigurations := fun p => by
  refine Params.wf_iff.trans ⟨?_, ?_⟩
  · rintro ⟨⟨sensorPos, sensorLt⟩, ⟨actPos, actLt⟩, settle, ⟨idlePos, idleLt⟩, pulsePos, pulseLt⟩
    exact ⟨settle, idlePos, idleLt, pulsePos, pulseLt, sensorPos, sensorLt, actPos, actLt⟩
  · rintro ⟨settle, idlePos, idleLt, pulsePos, pulseLt, sensorPos, sensorLt, actPos, actLt⟩
    exact ⟨⟨sensorPos, sensorLt⟩, ⟨actPos, actLt⟩, settle, ⟨idlePos, idleLt⟩, pulsePos, pulseLt⟩

end Sys2Proof
end
